-- ==== Sys2Proof/Word.lean ====
section
/-! DEFINITION. The word types of the encoder: input bytes, register ids and the 32-bit output word (spec rules R9, R11, R22). -/

namespace Sys2Proof

/-- One character of the input text: one byte (rule R53, decision D2). -/
abbrev Byte := BitVec 8

/-- The output word `out_word`, and every constant instruction word (rules R9, R22). -/
abbrev Word := BitVec 32

/-- A register identifier in `[0, 31]` (rules R9, R20). -/
abbrev RegId := BitVec 5

/-- A byte sequence: an input text, a token, or a key of a table (rules R13, R22). -/
abbrev Text := List Byte

end Sys2Proof
end

