-- ==== Sys2Proof/Machine/Formats.lean ====
section
/-! DEFINITION. The instruction formats as bit layouts (rules R91 to R97), the immediate patterns (rules R11, R92, R240), the inverse
formulas (rule R103) and the mask of a word (used with the opcode table). Fields are written most significant first, as in rule R12. -/

namespace Sys2Proof

/-- `tc_N(v)`: the N-bit two's-complement pattern of an integer, `v mod 2^N` (rule R11). -/
def tc (n : Nat) (v : Int) : BitVec n := BitVec.ofInt n v

/-- `offset & 0xFFF` for an integer taken in two's complement (rules R92, R240, R280; conflict C4): the low twelve bits of `v`, where
`-(n+1)` has the complemented bits of `n`. It is kept apart from `tc 12`, as the spec keeps the two constructions apart. -/
def maskFFF : Int → BitVec 12
  | .ofNat n => BitVec.ofNat 12 (n &&& 0xFFF)
  | .negSucc n => BitVec.ofNat 12 ((n &&& 0xFFF) ^^^ 0xFFF)

/-- R format (rule R91). -/
def fmtR (funct7 : BitVec 7) (rs2 rs1 : RegId) (funct3 : BitVec 3) (rd : RegId) (opcode : BitVec 7) : Word :=
  funct7 ++ rs2 ++ rs1 ++ funct3 ++ rd ++ opcode

/-- I format (rule R92). -/
def fmtI (imm12 : BitVec 12) (rs1 : RegId) (funct3 : BitVec 3) (rd : RegId) (opcode : BitVec 7) : Word :=
  imm12 ++ rs1 ++ funct3 ++ rd ++ opcode

/-- I-shift format (rule R93). -/
def fmtIShift (funct7 : BitVec 7) (shamt5 : BitVec 5) (rs1 : RegId) (funct3 : BitVec 3) (rd : RegId) (opcode : BitVec 7) : Word :=
  funct7 ++ shamt5 ++ rs1 ++ funct3 ++ rd ++ opcode

/-- S format (rules R94, R100): `imm[11:5] rs2 rs1 funct3 imm[4:0] opcode`. -/
def fmtS (imm12 : BitVec 12) (rs2 rs1 : RegId) (funct3 : BitVec 3) (opcode : BitVec 7) : Word :=
  imm12.extractLsb' 5 7 ++ rs2 ++ rs1 ++ funct3 ++ imm12.extractLsb' 0 5 ++ opcode

/-- B format (rules R95, R101): `imm[12] imm[10:5] rs2 rs1 funct3 imm[4:1] imm[11] opcode`; bit 0 is not placed. -/
def fmtB (imm13 : BitVec 13) (rs2 rs1 : RegId) (funct3 : BitVec 3) (opcode : BitVec 7) : Word :=
  imm13.extractLsb' 12 1 ++ imm13.extractLsb' 5 6 ++ rs2 ++ rs1 ++ funct3 ++ imm13.extractLsb' 1 4 ++ imm13.extractLsb' 11 1 ++ opcode

/-- U format (rule R96). -/
def fmtU (imm20 : BitVec 20) (rd : RegId) (opcode : BitVec 7) : Word :=
  imm20 ++ rd ++ opcode

/-- J format (rules R97, R102): `imm[20] imm[10:1] imm[11] imm[19:12] rd opcode`; bit 0 is not placed. -/
def fmtJ (imm21 : BitVec 21) (rd : RegId) (opcode : BitVec 7) : Word :=
  imm21.extractLsb' 20 1 ++ imm21.extractLsb' 1 10 ++ imm21.extractLsb' 11 1 ++ imm21.extractLsb' 12 8 ++ rd ++ opcode

/-- Word bits 6:0 (rule R91). -/
def opcodeOf (w : Word) : BitVec 7 := w.extractLsb' 0 7

/-- Word bits 11:7 (rule R103). -/
def rdOf (w : Word) : RegId := w.extractLsb' 7 5

/-- Word bits 14:12 (rule R91). -/
def funct3Of (w : Word) : BitVec 3 := w.extractLsb' 12 3

/-- Word bits 19:15 (rule R103). -/
def rs1Of (w : Word) : RegId := w.extractLsb' 15 5

/-- Word bits 24:20 (rule R103). -/
def rs2Of (w : Word) : RegId := w.extractLsb' 20 5

/-- Word bits 31:25 (rule R91). -/
def funct7Of (w : Word) : BitVec 7 := w.extractLsb' 25 7

/-- `I: imm = sext_12(w[31:20])` (rule R103). -/
def immIOf (w : Word) : Int := (w.extractLsb' 20 12).toInt

/-- `I-shift: shamt = w[24:20]` (rule R103). -/
def shamtOf (w : Word) : Int := (w.extractLsb' 20 5).toNat

/-- `S: offset = sext_12` of `w[31:25], w[11:7]` (rule R103). -/
def immSOf (w : Word) : Int := (w.extractLsb' 25 7 ++ w.extractLsb' 7 5).toInt

/-- `B: offset = sext_13` of `w[31], w[7], w[30:25], w[11:8], 0` (rule R103). -/
def immBOf (w : Word) : Int :=
  (w.extractLsb' 31 1 ++ w.extractLsb' 7 1 ++ w.extractLsb' 25 6 ++ w.extractLsb' 8 4 ++ 0#1).toInt

/-- `U: imm20 = w[31:12]` (rule R103). -/
def immUOf (w : Word) : Int := (w.extractLsb' 12 20).toNat

/-- `J: offset = sext_21` of `w[31], w[19:12], w[20], w[30:21], 0` (rule R103). -/
def immJOf (w : Word) : Int :=
  (w.extractLsb' 31 1 ++ w.extractLsb' 12 8 ++ w.extractLsb' 20 1 ++ w.extractLsb' 21 10 ++ 0#1).toInt

end Sys2Proof
end

