-- ==== Sys2Proof/Machine/Ranges.lean ====
section
/-! DEFINITION. The ranges and the alignment of immediate operands (rules R86 to R90). -/

namespace Sys2Proof

/-- Range of a 12-bit immediate: I-arith, I-load/jalr and S (rule R86). -/
def fitsImm12 (v : Int) : Bool := decide (-2048 ≤ v) && decide (v ≤ 2047)

/-- Range of a shift amount (rule R87). -/
def fitsShamt (v : Int) : Bool := decide (0 ≤ v) && decide (v ≤ 31)

/-- Range of a branch offset, as a 13-bit two's-complement value (rule R88). -/
def fitsImm13 (v : Int) : Bool := decide (-4096 ≤ v) && decide (v ≤ 4095)

/-- Range of an upper immediate: the signed and the unsigned readings of 20 bits (rule R89, decision D10). -/
def fitsImm20 (v : Int) : Bool := decide (-524288 ≤ v) && decide (v ≤ 1048575)

/-- Range of a jump offset, as a 21-bit two's-complement value (rule R90). -/
def fitsImm21 (v : Int) : Bool := decide (-1048576 ≤ v) && decide (v ≤ 1048575)

/-- The alignment of a branch or jump offset (rules R88, R90). -/
def isEven (v : Int) : Bool := decide (v % 2 = 0)

end Sys2Proof
end

