-- ==== Sys2Proof/Syntax.lean ====
section
/-! DEFINITION. What an encode call is about: the nine format families, the operand shapes, the four error kinds, and the instruction
with its operands bound, one constructor per row of `spec/opcode_table.json`. -/

namespace Sys2Proof

/-- The nine format families (rule R77; glossary entry "Format family"). -/
inductive Family where
  | r | iArith | iLoadJalr | iShift | s | b | u | j | fixed
  deriving DecidableEq, Repr

/-- The four error kinds of an encode call (rule R400). -/
inductive ErrorKind where
  /-- The mnemonic is empty or in no table (rules R76, R77, R119). -/
  | unrecognizedMnemonic
  /-- A bad separator, a wrong operand count, or a token of the wrong kind (rules R75, R78 to R85). -/
  | malformedOperands
  /-- An immediate or a shift amount outside its family's range (rules R86 to R90). -/
  | immediateOutOfRange
  /-- An odd B or J offset within range (rules R88, R90). -/
  | immediateMisaligned
  deriving DecidableEq, Repr

/-- The operand shapes of rule R78: how many tokens a family takes, and of which kinds. -/
inductive Shape where
  | regRegReg | regRegImm | regMem | regImm | noOperand
  deriving DecidableEq, Repr

/-- The operands a token list binds, by shape and in token order (rule R78). An immediate is an unbounded integer (rules R11, R84). -/
inductive Operands where
  | regRegReg (a b c : RegId)
  | regRegImm (a b : RegId) (value : Int)
  | regMem (a : RegId) (offset : Int) (base : RegId)
  | regImm (a : RegId) (value : Int)
  | noOperand
  deriving DecidableEq, Repr

/-- An instruction: a mnemonic of `T_FAMILY` with its operands bound (rules R77, R78). It is what one encode call checks and encodes once
its text is parsed (rule R70). -/
inductive Instr where
  /-- `add rd, rs1, rs2`, rule R201. -/
  | add (rd rs1 rs2 : RegId)
  /-- `sub rd, rs1, rs2`, rule R202. -/
  | sub (rd rs1 rs2 : RegId)
  /-- `sll rd, rs1, rs2`, rule R203. -/
  | sll (rd rs1 rs2 : RegId)
  /-- `slt rd, rs1, rs2`, rule R204. -/
  | slt (rd rs1 rs2 : RegId)
  /-- `sltu rd, rs1, rs2`, rule R205. -/
  | sltu (rd rs1 rs2 : RegId)
  /-- `xor rd, rs1, rs2`, rule R206. -/
  | xor (rd rs1 rs2 : RegId)
  /-- `srl rd, rs1, rs2`, rule R207. -/
  | srl (rd rs1 rs2 : RegId)
  /-- `sra rd, rs1, rs2`, rule R208. -/
  | sra (rd rs1 rs2 : RegId)
  /-- `or rd, rs1, rs2`, rule R209. -/
  | or (rd rs1 rs2 : RegId)
  /-- `and rd, rs1, rs2`, rule R210. -/
  | and (rd rs1 rs2 : RegId)
  /-- `addi rd, rs1, imm`, rule R221. -/
  | addi (rd rs1 : RegId) (imm : Int)
  /-- `slti rd, rs1, imm`, rule R222. -/
  | slti (rd rs1 : RegId) (imm : Int)
  /-- `sltiu rd, rs1, imm`, rule R223. -/
  | sltiu (rd rs1 : RegId) (imm : Int)
  /-- `xori rd, rs1, imm`, rule R224. -/
  | xori (rd rs1 : RegId) (imm : Int)
  /-- `ori rd, rs1, imm`, rule R225. -/
  | ori (rd rs1 : RegId) (imm : Int)
  /-- `andi rd, rs1, imm`, rule R226. -/
  | andi (rd rs1 : RegId) (imm : Int)
  /-- `lb rd, offset(rs1)`, rule R241. -/
  | lb (rd rs1 : RegId) (offset : Int)
  /-- `lh rd, offset(rs1)`, rule R242. -/
  | lh (rd rs1 : RegId) (offset : Int)
  /-- `lw rd, offset(rs1)`, rule R243. -/
  | lw (rd rs1 : RegId) (offset : Int)
  /-- `lbu rd, offset(rs1)`, rule R244. -/
  | lbu (rd rs1 : RegId) (offset : Int)
  /-- `lhu rd, offset(rs1)`, rule R245. -/
  | lhu (rd rs1 : RegId) (offset : Int)
  /-- `jalr rd, offset(rs1)`, rule R246. -/
  | jalr (rd rs1 : RegId) (offset : Int)
  /-- `slli rd, rs1, shamt`, rule R261. -/
  | slli (rd rs1 : RegId) (shamt : Int)
  /-- `srli rd, rs1, shamt`, rule R262. -/
  | srli (rd rs1 : RegId) (shamt : Int)
  /-- `srai rd, rs1, shamt`, rule R263. -/
  | srai (rd rs1 : RegId) (shamt : Int)
  /-- `sb rs2, offset(rs1)`, rule R281. -/
  | sb (rs2 rs1 : RegId) (offset : Int)
  /-- `sh rs2, offset(rs1)`, rule R282. -/
  | sh (rs2 rs1 : RegId) (offset : Int)
  /-- `sw rs2, offset(rs1)`, rule R283. -/
  | sw (rs2 rs1 : RegId) (offset : Int)
  /-- `beq rs1, rs2, offset`, rule R301. -/
  | beq (rs1 rs2 : RegId) (offset : Int)
  /-- `bne rs1, rs2, offset`, rule R302. -/
  | bne (rs1 rs2 : RegId) (offset : Int)
  /-- `blt rs1, rs2, offset`, rule R303. -/
  | blt (rs1 rs2 : RegId) (offset : Int)
  /-- `bge rs1, rs2, offset`, rule R304. -/
  | bge (rs1 rs2 : RegId) (offset : Int)
  /-- `bltu rs1, rs2, offset`, rule R305. -/
  | bltu (rs1 rs2 : RegId) (offset : Int)
  /-- `bgeu rs1, rs2, offset`, rule R306. -/
  | bgeu (rs1 rs2 : RegId) (offset : Int)
  /-- `lui rd, imm`, rule R321. -/
  | lui (rd : RegId) (imm : Int)
  /-- `auipc rd, imm`, rule R322. -/
  | auipc (rd : RegId) (imm : Int)
  /-- `jal rd, offset`, rule R341. -/
  | jal (rd : RegId) (offset : Int)
  /-- `ecall`, rule R360. -/
  | ecall
  /-- `ebreak`, rule R361. -/
  | ebreak
  /-- `fence.tso`, rule R362. -/
  | fenceTso
  /-- `pause`, rule R363. -/
  | pause
  deriving DecidableEq, Repr

end Sys2Proof
end

