-- ==== Sys2Proof/Config.lean ====
section
/-! DEFINITION. The fixed parameters of the block (rule R9) and the form of its constant tables (rules R21, R24, R25, R33).
The open parameter N_TEXT is no constant here: it is the length of `in_text` in the state at hand (log entry 2). -/

namespace Sys2Proof

/-- Instruction word width: 32 bits, fixed (rule R9). -/
abbrev Config.wordWidth : Nat := 32

/-- Number of registers an id can name: 32, ids 0 to 31 (rule R9). -/
abbrev Config.registerCount : Nat := 32

/-- Number of accepted mnemonics: 37 of RV32I and 4 fixed (rule R9, decision D14). -/
abbrev Config.mnemonicCount : Nat := 41

/-- The read-only constant tables, the only storage of the block (rules R21, R24, R25, R33). Each is a list of keys with their values;
a key is lowercase text and is looked up exactly (rule R33). -/
structure Tables where
  /-- `T_PRIMARY`: primary ABI register name to register id (rule R24). -/
  primary : List (Text × RegId)
  /-- `T_SECONDARY`: secondary name to primary name (rule R25). -/
  secondary : List (Text × Text)
  /-- `T_FAMILY`: mnemonic to format family (rules R33, R77). -/
  family : List (Text × Family)
  /-- `T_OPCODE`: mnemonic to major opcode (rules R33, R104). -/
  opcode : List (Text × BitVec 7)
  /-- `T_FUNCT3`: mnemonic to funct3 (rules R33, R105 to R110). -/
  funct3 : List (Text × BitVec 3)
  /-- `T_FUNCT7`: mnemonic to funct7 (rules R33, R105, R108). -/
  funct7 : List (Text × BitVec 7)
  /-- `T_FIXED`: mnemonic to its constant word (rules R33, R113). -/
  fixed : List (Text × Word)
  deriving DecidableEq, Repr

end Sys2Proof
end

