-- ==== Sys2Proof/Machine/Text.lean ====
section
/-! DEFINITION. The input text: character codes, case fold, whitespace, trimming, tokens and separators (rules R71 to R75), and the
decimal spelling of numbers. -/

namespace Sys2Proof

/-- The bytes of a text written as characters: one byte per character, ASCII (decision D2). -/
def ascii (cs : List Char) : Text := cs.map fun c => BitVec.ofNat 8 c.toNat

/-- Case fold of one byte (rule R71): `A` to `Z` gain 0x20, nothing else changes. -/
def foldByte (b : Byte) : Byte := if 0x41#8 ≤ b ∧ b ≤ 0x5A#8 then b + 0x20#8 else b

/-- Case fold of the whole input, before any other step (rule R71). -/
def foldText (T : Text) : Text := T.map foldByte

/-- The whitespace bytes: tab, line feed, carriage return, space (rule R72). -/
def isSpace (b : Byte) : Bool := b == 0x09#8 || b == 0x0A#8 || b == 0x0D#8 || b == 0x20#8

/-- The comma (rule R72). -/
def isComma (b : Byte) : Bool := b == 0x2C#8

/-- A token byte: neither whitespace nor comma (rules R72, R74). -/
def isTokenByte (b : Byte) : Bool := !isSpace b && !isComma b

/-- Drops the whitespace at the start of a text. -/
def dropSpace (s : Text) : Text := s.dropWhile isSpace

/-- `trim`: drops the whitespace at both ends, and only there (rule R73). -/
def trim (s : Text) : Text := (dropSpace (dropSpace s).reverse).reverse

/-- The longest prefix made of token bytes: a token, or the empty text (rule R74). -/
def takeToken (s : Text) : Text := s.takeWhile isTokenByte

/-- What `takeToken` leaves. -/
def dropToken (s : Text) : Text := s.dropWhile isTokenByte

/-- `split_mnemonic` (rule R74): the mnemonic and the remainder. -/
def splitMnemonic (s : Text) : Text × Text := (takeToken s, dropToken s)

/-- Drops one separator as far as it goes: whitespace, at most one comma, whitespace (rule R75). -/
def dropSeparator (s : Text) : Text :=
  match dropSpace s with
  | [] => []
  | c :: cs => if isComma c then dropSpace cs else c :: cs

/-- The loop of `split_operands` (rule R75). Every turn consumes at least one byte, so the length of the text is fuel enough:
`splitOperands_eq` (Laws) is the loop without the fuel. -/
def splitLoop : Nat → Text → Except ErrorKind (List Text)
  | _, [] => .ok []
  | 0, _ :: _ => .error .malformedOperands
  | fuel + 1, c :: cs =>
    match dropSeparator (c :: cs) with
    | [] => .error .malformedOperands
    | d :: ds =>
      if isComma d then .error .malformedOperands
      else
        match splitLoop fuel (dropToken (d :: ds)) with
        | .error e => .error e
        | .ok toks => .ok (takeToken (d :: ds) :: toks)

/-- `split_operands` (rule R75): the operand tokens, or `MalformedOperands` for a trailing comma or two commas in one separator. -/
def splitOperands (rest : Text) : Except ErrorKind (List Text) := splitLoop rest.length rest

/-- The value of a decimal digit byte (rules R82, R84). -/
def digitValue (b : Byte) : Option Nat :=
  if 0x30#8 ≤ b ∧ b ≤ 0x39#8 then some (b.toNat - 0x30) else none

/-- The byte of a decimal digit. -/
def digitByte (d : Nat) : Byte := BitVec.ofNat 8 (0x30 + d)

/-- The number a run of decimal digits spells, continuing from `acc`; `none` at the first byte that is no digit. -/
def digitsValue : Nat → Text → Option Nat
  | acc, [] => some acc
  | acc, b :: bs =>
    match digitValue b with
    | none => none
    | some d => digitsValue (acc * 10 + d) bs

/-- The digits of `n` in front of `acc`; `n + 1` is fuel enough. -/
def decimalLoop : Nat → Nat → Text → Text
  | 0, _, acc => acc
  | fuel + 1, n, acc =>
    if n / 10 = 0 then digitByte (n % 10) :: acc else decimalLoop fuel (n / 10) (digitByte (n % 10) :: acc)

/-- The decimal numeral of `n`, without leading zeros. -/
def decimal (n : Nat) : Text := decimalLoop (n + 1) n []

end Sys2Proof
end

