-- ==== Sys2Proof/Machine/Tables.lean ====
section
/-! DEFINITION. The constant contents of the tables (rules R24, R25, R77, R104 to R113), and the lookup of a key.
The values the source document does not give are general knowledge that the spec's rules take over (K1 to K9; log entry 12). -/

namespace Sys2Proof

/-- `T[k]`: lookup of a key, exact (rules R13, R33). -/
def lookup {α : Type} (k : Text) : List (Text × α) → Option α
  | [] => none
  | (key, v) :: rows => if k = key then some v else lookup k rows

/-- `T_PRIMARY`: 32 names, one per id (rule R24; conflict C3 puts `zero` in it). -/
def primaryRows : List (Text × RegId) :=
  [(ascii ['z', 'e', 'r', 'o'], 0#5),
   (ascii ['r', 'a'], 1#5),
   (ascii ['s', 'p'], 2#5),
   (ascii ['g', 'p'], 3#5),
   (ascii ['t', 'p'], 4#5),
   (ascii ['t', '0'], 5#5),
   (ascii ['t', '1'], 6#5),
   (ascii ['t', '2'], 7#5),
   (ascii ['s', '0'], 8#5),
   (ascii ['s', '1'], 9#5),
   (ascii ['a', '0'], 10#5),
   (ascii ['a', '1'], 11#5),
   (ascii ['a', '2'], 12#5),
   (ascii ['a', '3'], 13#5),
   (ascii ['a', '4'], 14#5),
   (ascii ['a', '5'], 15#5),
   (ascii ['a', '6'], 16#5),
   (ascii ['a', '7'], 17#5),
   (ascii ['s', '2'], 18#5),
   (ascii ['s', '3'], 19#5),
   (ascii ['s', '4'], 20#5),
   (ascii ['s', '5'], 21#5),
   (ascii ['s', '6'], 22#5),
   (ascii ['s', '7'], 23#5),
   (ascii ['s', '8'], 24#5),
   (ascii ['s', '9'], 25#5),
   (ascii ['s', '1', '0'], 26#5),
   (ascii ['s', '1', '1'], 27#5),
   (ascii ['t', '3'], 28#5),
   (ascii ['t', '4'], 29#5),
   (ascii ['t', '5'], 30#5),
   (ascii ['t', '6'], 31#5)]

/-- `T_SECONDARY`: its one entry `fp -> s0` (rule R25). -/
def secondaryRows : List (Text × Text) :=
  [(ascii ['f', 'p'], ascii ['s', '0'])]

/-- The R rows of `T_FAMILY` (rule R77). -/
def rFamily : List (Text × Family) :=
  [(ascii ['a', 'd', 'd'], .r),
   (ascii ['s', 'u', 'b'], .r),
   (ascii ['s', 'l', 'l'], .r),
   (ascii ['s', 'l', 't'], .r),
   (ascii ['s', 'l', 't', 'u'], .r),
   (ascii ['x', 'o', 'r'], .r),
   (ascii ['s', 'r', 'l'], .r),
   (ascii ['s', 'r', 'a'], .r),
   (ascii ['o', 'r'], .r),
   (ascii ['a', 'n', 'd'], .r)]

/-- The I-arith rows of `T_FAMILY` (rule R77). -/
def iArithFamily : List (Text × Family) :=
  [(ascii ['a', 'd', 'd', 'i'], .iArith),
   (ascii ['s', 'l', 't', 'i'], .iArith),
   (ascii ['s', 'l', 't', 'i', 'u'], .iArith),
   (ascii ['x', 'o', 'r', 'i'], .iArith),
   (ascii ['o', 'r', 'i'], .iArith),
   (ascii ['a', 'n', 'd', 'i'], .iArith)]

/-- The I-load/jalr rows of `T_FAMILY` (rule R77). -/
def iLoadJalrFamily : List (Text × Family) :=
  [(ascii ['l', 'b'], .iLoadJalr),
   (ascii ['l', 'h'], .iLoadJalr),
   (ascii ['l', 'w'], .iLoadJalr),
   (ascii ['l', 'b', 'u'], .iLoadJalr),
   (ascii ['l', 'h', 'u'], .iLoadJalr),
   (ascii ['j', 'a', 'l', 'r'], .iLoadJalr)]

/-- The I-shift rows of `T_FAMILY` (rule R77). -/
def iShiftFamily : List (Text × Family) :=
  [(ascii ['s', 'l', 'l', 'i'], .iShift),
   (ascii ['s', 'r', 'l', 'i'], .iShift),
   (ascii ['s', 'r', 'a', 'i'], .iShift)]

/-- The S rows of `T_FAMILY` (rule R77). -/
def sFamily : List (Text × Family) :=
  [(ascii ['s', 'b'], .s),
   (ascii ['s', 'h'], .s),
   (ascii ['s', 'w'], .s)]

/-- The B rows of `T_FAMILY` (rule R77). -/
def bFamily : List (Text × Family) :=
  [(ascii ['b', 'e', 'q'], .b),
   (ascii ['b', 'n', 'e'], .b),
   (ascii ['b', 'l', 't'], .b),
   (ascii ['b', 'g', 'e'], .b),
   (ascii ['b', 'l', 't', 'u'], .b),
   (ascii ['b', 'g', 'e', 'u'], .b)]

/-- The U rows of `T_FAMILY` (rule R77). -/
def uFamily : List (Text × Family) :=
  [(ascii ['l', 'u', 'i'], .u),
   (ascii ['a', 'u', 'i', 'p', 'c'], .u)]

/-- The J rows of `T_FAMILY` (rule R77). -/
def jFamily : List (Text × Family) :=
  [(ascii ['j', 'a', 'l'], .j)]

/-- The Fixed rows of `T_FAMILY` (rule R77). -/
def fixedFamily : List (Text × Family) :=
  [(ascii ['e', 'c', 'a', 'l', 'l'], .fixed),
   (ascii ['e', 'b', 'r', 'e', 'a', 'k'], .fixed),
   (ascii ['f', 'e', 'n', 'c', 'e', '.', 't', 's', 'o'], .fixed),
   (ascii ['p', 'a', 'u', 's', 'e'], .fixed)]

/-- The R rows of `T_OPCODE` (rules R104). -/
def rOpcode : List (Text × BitVec 7) :=
  [(ascii ['a', 'd', 'd'], 0b0110011#7),
   (ascii ['s', 'u', 'b'], 0b0110011#7),
   (ascii ['s', 'l', 'l'], 0b0110011#7),
   (ascii ['s', 'l', 't'], 0b0110011#7),
   (ascii ['s', 'l', 't', 'u'], 0b0110011#7),
   (ascii ['x', 'o', 'r'], 0b0110011#7),
   (ascii ['s', 'r', 'l'], 0b0110011#7),
   (ascii ['s', 'r', 'a'], 0b0110011#7),
   (ascii ['o', 'r'], 0b0110011#7),
   (ascii ['a', 'n', 'd'], 0b0110011#7)]

/-- The I-arith rows of `T_OPCODE` (rules R104). -/
def iArithOpcode : List (Text × BitVec 7) :=
  [(ascii ['a', 'd', 'd', 'i'], 0b0010011#7),
   (ascii ['s', 'l', 't', 'i'], 0b0010011#7),
   (ascii ['s', 'l', 't', 'i', 'u'], 0b0010011#7),
   (ascii ['x', 'o', 'r', 'i'], 0b0010011#7),
   (ascii ['o', 'r', 'i'], 0b0010011#7),
   (ascii ['a', 'n', 'd', 'i'], 0b0010011#7)]

/-- The I-load/jalr rows of `T_OPCODE` (rules R104). -/
def iLoadJalrOpcode : List (Text × BitVec 7) :=
  [(ascii ['l', 'b'], 0b0000011#7),
   (ascii ['l', 'h'], 0b0000011#7),
   (ascii ['l', 'w'], 0b0000011#7),
   (ascii ['l', 'b', 'u'], 0b0000011#7),
   (ascii ['l', 'h', 'u'], 0b0000011#7),
   (ascii ['j', 'a', 'l', 'r'], 0b1100111#7)]

/-- The I-shift rows of `T_OPCODE` (rules R104). -/
def iShiftOpcode : List (Text × BitVec 7) :=
  [(ascii ['s', 'l', 'l', 'i'], 0b0010011#7),
   (ascii ['s', 'r', 'l', 'i'], 0b0010011#7),
   (ascii ['s', 'r', 'a', 'i'], 0b0010011#7)]

/-- The S rows of `T_OPCODE` (rules R104). -/
def sOpcode : List (Text × BitVec 7) :=
  [(ascii ['s', 'b'], 0b0100011#7),
   (ascii ['s', 'h'], 0b0100011#7),
   (ascii ['s', 'w'], 0b0100011#7)]

/-- The B rows of `T_OPCODE` (rules R104). -/
def bOpcode : List (Text × BitVec 7) :=
  [(ascii ['b', 'e', 'q'], 0b1100011#7),
   (ascii ['b', 'n', 'e'], 0b1100011#7),
   (ascii ['b', 'l', 't'], 0b1100011#7),
   (ascii ['b', 'g', 'e'], 0b1100011#7),
   (ascii ['b', 'l', 't', 'u'], 0b1100011#7),
   (ascii ['b', 'g', 'e', 'u'], 0b1100011#7)]

/-- The U rows of `T_OPCODE` (rules R104, R111). -/
def uOpcode : List (Text × BitVec 7) :=
  [(ascii ['l', 'u', 'i'], 0b0110111#7),
   (ascii ['a', 'u', 'i', 'p', 'c'], 0b0010111#7)]

/-- The J rows of `T_OPCODE` (rules R104, R112). -/
def jOpcode : List (Text × BitVec 7) :=
  [(ascii ['j', 'a', 'l'], 0b1101111#7)]

/-- The R rows of `T_FUNCT3` (rule R105). -/
def rFunct3 : List (Text × BitVec 3) :=
  [(ascii ['a', 'd', 'd'], 0b000#3),
   (ascii ['s', 'u', 'b'], 0b000#3),
   (ascii ['s', 'l', 'l'], 0b001#3),
   (ascii ['s', 'l', 't'], 0b010#3),
   (ascii ['s', 'l', 't', 'u'], 0b011#3),
   (ascii ['x', 'o', 'r'], 0b100#3),
   (ascii ['s', 'r', 'l'], 0b101#3),
   (ascii ['s', 'r', 'a'], 0b101#3),
   (ascii ['o', 'r'], 0b110#3),
   (ascii ['a', 'n', 'd'], 0b111#3)]

/-- The I-arith rows of `T_FUNCT3` (rule R106). -/
def iArithFunct3 : List (Text × BitVec 3) :=
  [(ascii ['a', 'd', 'd', 'i'], 0b000#3),
   (ascii ['s', 'l', 't', 'i'], 0b010#3),
   (ascii ['s', 'l', 't', 'i', 'u'], 0b011#3),
   (ascii ['x', 'o', 'r', 'i'], 0b100#3),
   (ascii ['o', 'r', 'i'], 0b110#3),
   (ascii ['a', 'n', 'd', 'i'], 0b111#3)]

/-- The I-load/jalr rows of `T_FUNCT3` (rule R107). -/
def iLoadJalrFunct3 : List (Text × BitVec 3) :=
  [(ascii ['l', 'b'], 0b000#3),
   (ascii ['l', 'h'], 0b001#3),
   (ascii ['l', 'w'], 0b010#3),
   (ascii ['l', 'b', 'u'], 0b100#3),
   (ascii ['l', 'h', 'u'], 0b101#3),
   (ascii ['j', 'a', 'l', 'r'], 0b000#3)]

/-- The I-shift rows of `T_FUNCT3` (rule R108). -/
def iShiftFunct3 : List (Text × BitVec 3) :=
  [(ascii ['s', 'l', 'l', 'i'], 0b001#3),
   (ascii ['s', 'r', 'l', 'i'], 0b101#3),
   (ascii ['s', 'r', 'a', 'i'], 0b101#3)]

/-- The S rows of `T_FUNCT3` (rule R109). -/
def sFunct3 : List (Text × BitVec 3) :=
  [(ascii ['s', 'b'], 0b000#3),
   (ascii ['s', 'h'], 0b001#3),
   (ascii ['s', 'w'], 0b010#3)]

/-- The B rows of `T_FUNCT3` (rule R110). -/
def bFunct3 : List (Text × BitVec 3) :=
  [(ascii ['b', 'e', 'q'], 0b000#3),
   (ascii ['b', 'n', 'e'], 0b001#3),
   (ascii ['b', 'l', 't'], 0b100#3),
   (ascii ['b', 'g', 'e'], 0b101#3),
   (ascii ['b', 'l', 't', 'u'], 0b110#3),
   (ascii ['b', 'g', 'e', 'u'], 0b111#3)]

/-- The R rows of `T_FUNCT7` (rule R105). -/
def rFunct7 : List (Text × BitVec 7) :=
  [(ascii ['a', 'd', 'd'], 0b0000000#7),
   (ascii ['s', 'u', 'b'], 0b0100000#7),
   (ascii ['s', 'l', 'l'], 0b0000000#7),
   (ascii ['s', 'l', 't'], 0b0000000#7),
   (ascii ['s', 'l', 't', 'u'], 0b0000000#7),
   (ascii ['x', 'o', 'r'], 0b0000000#7),
   (ascii ['s', 'r', 'l'], 0b0000000#7),
   (ascii ['s', 'r', 'a'], 0b0100000#7),
   (ascii ['o', 'r'], 0b0000000#7),
   (ascii ['a', 'n', 'd'], 0b0000000#7)]

/-- The I-shift rows of `T_FUNCT7` (rule R108; conflict C8). -/
def iShiftFunct7 : List (Text × BitVec 7) :=
  [(ascii ['s', 'l', 'l', 'i'], 0b0000000#7),
   (ascii ['s', 'r', 'l', 'i'], 0b0000000#7),
   (ascii ['s', 'r', 'a', 'i'], 0b0100000#7)]

/-- `T_FIXED`: the four constant words (rule R113). -/
def fixedRows : List (Text × Word) :=
  [(ascii ['e', 'c', 'a', 'l', 'l'], 0x00000073#32),
   (ascii ['e', 'b', 'r', 'e', 'a', 'k'], 0x00100073#32),
   (ascii ['f', 'e', 'n', 'c', 'e', '.', 't', 's', 'o'], 0x8330000F#32),
   (ascii ['p', 'a', 'u', 's', 'e'], 0x0100000F#32)]

/-- The constant contents of every table, which they hold from power-up (rules R21, R35, R450, R451). -/
def Tables.contents : Tables where
  primary := primaryRows
  secondary := secondaryRows
  family := rFamily ++ iArithFamily ++ iLoadJalrFamily ++ iShiftFamily ++ sFamily ++ bFamily ++ uFamily ++ jFamily ++ fixedFamily
  opcode := rOpcode ++ iArithOpcode ++ iLoadJalrOpcode ++ iShiftOpcode ++ sOpcode ++ bOpcode ++ uOpcode ++ jOpcode
  funct3 := rFunct3 ++ iArithFunct3 ++ iLoadJalrFunct3 ++ iShiftFunct3 ++ sFunct3 ++ bFunct3
  funct7 := rFunct7 ++ iShiftFunct7
  fixed := fixedRows

end Sys2Proof
end

