-- ==== Sys2Proof/Machine/Operands.lean ====
section
/-! DEFINITION. Every operand form: register tokens (rules R79 to R83), immediate tokens (rule R84), memory-operand tokens (rule R85), the
family shapes (rule R78) and the immediate checks (rules R86 to R90). -/

namespace Sys2Proof

/-- The numeral part of a canonical register name: decimal, no sign, no leading zero (rule R82). -/
def canonicalNumeral : Text → Option Nat
  | [a] => digitValue a
  | [a, b] =>
    match digitValue a, digitValue b with
    | some m, some n => if m = 0 then none else some (m * 10 + n)
    | _, _ => none
  | _ => none

/-- A canonical register name `x0` to `x31` (rules R28, R82). -/
def canonicalRegister : Text → Option RegId
  | [] => none
  | x :: numeral =>
    if x = 0x78#8 then
      match canonicalNumeral numeral with
      | none => none
      | some n => if n ≤ 31 then some (BitVec.ofNat 5 n) else none
    else none

/-- `resolve(t)`: the Register Alias Resolver, at most two lookup hops, then the canonical names (rules R79 to R82). -/
def resolve (t : Tables) (token : Text) : Option RegId :=
  match lookup token t.primary with
  | some id => some id
  | none =>
    match lookup token t.secondary with
    | some name => lookup name t.primary
    | none => canonicalRegister token

/-- The number a non-empty run of decimal digits spells (rule R84). -/
def digitsToken : Text → Option Nat
  | [] => none
  | b :: bs => digitsValue 0 (b :: bs)

/-- Immediate token (rule R84): at most one sign byte, then one or more decimal digits; the value is unbounded. -/
def immToken : Text → Option Int
  | [] => none
  | b :: bs =>
    if b = 0x2B#8 then (digitsToken bs).map fun (n : Nat) => (n : Int)
    else if b = 0x2D#8 then (digitsToken bs).map fun (n : Nat) => -(n : Int)
    else (digitsToken (b :: bs)).map fun (n : Nat) => (n : Int)

/-- An opening or closing parenthesis (rule R85). -/
def isParen (b : Byte) : Bool := b == 0x28#8 || b == 0x29#8

/-- Memory-operand token `I(R)` (rule R85): cut at the first `(`; the last byte is `)`; no parenthesis in `R`. -/
def memToken (t : Tables) (token : Text) : Option (Int × RegId) :=
  match token.dropWhile (fun b => !(b == 0x28#8)) with
  | [] => none
  | _ :: tail =>
    if tail.getLast? = some 0x29#8 ∧ tail.dropLast.any isParen = false then
      match immToken (token.takeWhile fun b => !(b == 0x28#8)), resolve t tail.dropLast with
      | some offset, some base => some (offset, base)
      | _, _ => none
    else none

/-- The operand shape of each family (rule R78). -/
def Family.shape : Family → Shape
  | .r => .regRegReg
  | .iArith => .regRegImm
  | .iShift => .regRegImm
  | .iLoadJalr => .regMem
  | .s => .regMem
  | .b => .regRegImm
  | .u => .regImm
  | .j => .regImm
  | .fixed => .noOperand

/-- The operands a token list binds in a shape: exactly the count and the kinds of rule R78. -/
def bindShape (t : Tables) : Shape → List Text → Option Operands
  | .regRegReg, [a, b, c] =>
    match resolve t a, resolve t b, resolve t c with
    | some ra, some rb, some rc => some (.regRegReg ra rb rc)
    | _, _, _ => none
  | .regRegImm, [a, b, v] =>
    match resolve t a, resolve t b, immToken v with
    | some ra, some rb, some i => some (.regRegImm ra rb i)
    | _, _, _ => none
  | .regMem, [a, m] =>
    match resolve t a, memToken t m with
    | some ra, some (offset, base) => some (.regMem ra offset base)
    | _, _ => none
  | .regImm, [a, v] =>
    match resolve t a, immToken v with
    | some ra, some i => some (.regImm ra i)
    | _, _ => none
  | .noOperand, [] => some .noOperand
  | _, _ => none

/-- `match_shape(fam, toks)` (rule R78): any other count or kind is `MalformedOperands`. -/
def matchShape (t : Tables) (fam : Family) (toks : List Text) : Except ErrorKind Operands :=
  match bindShape t fam.shape toks with
  | none => .error .malformedOperands
  | some ops => .ok ops

/-- The range check alone of a field (rules R86, R87, R89). -/
def checkRange (inRange : Bool) : Option ErrorKind :=
  if inRange then none else some .immediateOutOfRange

/-- The range check, then the alignment check (rules R88, R90, R403). -/
def checkRangeThenEven (inRange : Bool) (v : Int) : Option ErrorKind :=
  if inRange then (if isEven v then none else some .immediateMisaligned) else some .immediateOutOfRange

/-- The check of a 12-bit immediate (rule R86). -/
def checkImm12 (v : Int) : Option ErrorKind := checkRange (fitsImm12 v)

/-- The check of a shift amount (rule R87). -/
def checkShamt (v : Int) : Option ErrorKind := checkRange (fitsShamt v)

/-- The checks of a branch offset (rule R88). -/
def checkImm13 (v : Int) : Option ErrorKind := checkRangeThenEven (fitsImm13 v) v

/-- The check of an upper immediate (rule R89). -/
def checkImm20 (v : Int) : Option ErrorKind := checkRange (fitsImm20 v)

/-- The checks of a jump offset (rule R90). -/
def checkImm21 (v : Int) : Option ErrorKind := checkRangeThenEven (fitsImm21 v) v

end Sys2Proof
end

