-- ==== Sys2Proof/WellFormed.lean ====
section
/-! DEFINITION. Well-formed instructions: those whose immediate meets its family's range and alignment (rules R86 to R90).
Every register id is well formed in every field (rule R29). -/

namespace Sys2Proof

/-- The check of an instruction's immediate, by family (rules R86 to R90). -/
def Instr.wf : Instr → Bool
  | .add _ _ _ => true
  | .sub _ _ _ => true
  | .sll _ _ _ => true
  | .slt _ _ _ => true
  | .sltu _ _ _ => true
  | .xor _ _ _ => true
  | .srl _ _ _ => true
  | .sra _ _ _ => true
  | .or _ _ _ => true
  | .and _ _ _ => true
  | .addi _ _ imm => fitsImm12 imm
  | .slti _ _ imm => fitsImm12 imm
  | .sltiu _ _ imm => fitsImm12 imm
  | .xori _ _ imm => fitsImm12 imm
  | .ori _ _ imm => fitsImm12 imm
  | .andi _ _ imm => fitsImm12 imm
  | .lb _ _ offset => fitsImm12 offset
  | .lh _ _ offset => fitsImm12 offset
  | .lw _ _ offset => fitsImm12 offset
  | .lbu _ _ offset => fitsImm12 offset
  | .lhu _ _ offset => fitsImm12 offset
  | .jalr _ _ offset => fitsImm12 offset
  | .slli _ _ shamt => fitsShamt shamt
  | .srli _ _ shamt => fitsShamt shamt
  | .srai _ _ shamt => fitsShamt shamt
  | .sb _ _ offset => fitsImm12 offset
  | .sh _ _ offset => fitsImm12 offset
  | .sw _ _ offset => fitsImm12 offset
  | .beq _ _ offset => fitsImm13 offset && isEven offset
  | .bne _ _ offset => fitsImm13 offset && isEven offset
  | .blt _ _ offset => fitsImm13 offset && isEven offset
  | .bge _ _ offset => fitsImm13 offset && isEven offset
  | .bltu _ _ offset => fitsImm13 offset && isEven offset
  | .bgeu _ _ offset => fitsImm13 offset && isEven offset
  | .lui _ imm => fitsImm20 imm
  | .auipc _ imm => fitsImm20 imm
  | .jal _ offset => fitsImm21 offset && isEven offset
  | .ecall => true
  | .ebreak => true
  | .fenceTso => true
  | .pause => true

/-- An instruction the encoder accepts: its immediate passes every check of rules R86 to R90. -/
abbrev Instr.WellFormed (i : Instr) : Prop := i.wf = true

end Sys2Proof
end

