-- ==== Sys2Proof/Decode.lean ====
section
/-! DEFINITION. Decode and encode, both directions.
The MACHINE's decoder reads text: `parse` is the front half of an encode call (rule R70 up to `match_shape`), total on any bytes, each
refusal one of the error kinds of rule R400. `encode` is the word of an instruction, written from the family rules R200 to R363, and
`encodeText` is the encode call as the pure function of rules R23 and R70.
The INVERSE decoder reads words: `decodeWord` applies the formulas of rule R103 and the opcode map of rules R104 to R113. The spec keeps
decoding out of the block (rule R7) and gives these formulas as test aids; here they name the instruction a table word stands for
(log entry 8). `print` writes an instruction as one canonical line of text (log entry 9). -/

namespace Sys2Proof

/-- The mnemonic of an instruction, as `spec/opcode_table.json` and rule R77 spell it. -/
def Instr.mnemonic : Instr → Text
  | .add _ _ _ => ascii ['a', 'd', 'd']
  | .sub _ _ _ => ascii ['s', 'u', 'b']
  | .sll _ _ _ => ascii ['s', 'l', 'l']
  | .slt _ _ _ => ascii ['s', 'l', 't']
  | .sltu _ _ _ => ascii ['s', 'l', 't', 'u']
  | .xor _ _ _ => ascii ['x', 'o', 'r']
  | .srl _ _ _ => ascii ['s', 'r', 'l']
  | .sra _ _ _ => ascii ['s', 'r', 'a']
  | .or _ _ _ => ascii ['o', 'r']
  | .and _ _ _ => ascii ['a', 'n', 'd']
  | .addi _ _ _ => ascii ['a', 'd', 'd', 'i']
  | .slti _ _ _ => ascii ['s', 'l', 't', 'i']
  | .sltiu _ _ _ => ascii ['s', 'l', 't', 'i', 'u']
  | .xori _ _ _ => ascii ['x', 'o', 'r', 'i']
  | .ori _ _ _ => ascii ['o', 'r', 'i']
  | .andi _ _ _ => ascii ['a', 'n', 'd', 'i']
  | .lb _ _ _ => ascii ['l', 'b']
  | .lh _ _ _ => ascii ['l', 'h']
  | .lw _ _ _ => ascii ['l', 'w']
  | .lbu _ _ _ => ascii ['l', 'b', 'u']
  | .lhu _ _ _ => ascii ['l', 'h', 'u']
  | .jalr _ _ _ => ascii ['j', 'a', 'l', 'r']
  | .slli _ _ _ => ascii ['s', 'l', 'l', 'i']
  | .srli _ _ _ => ascii ['s', 'r', 'l', 'i']
  | .srai _ _ _ => ascii ['s', 'r', 'a', 'i']
  | .sb _ _ _ => ascii ['s', 'b']
  | .sh _ _ _ => ascii ['s', 'h']
  | .sw _ _ _ => ascii ['s', 'w']
  | .beq _ _ _ => ascii ['b', 'e', 'q']
  | .bne _ _ _ => ascii ['b', 'n', 'e']
  | .blt _ _ _ => ascii ['b', 'l', 't']
  | .bge _ _ _ => ascii ['b', 'g', 'e']
  | .bltu _ _ _ => ascii ['b', 'l', 't', 'u']
  | .bgeu _ _ _ => ascii ['b', 'g', 'e', 'u']
  | .lui _ _ => ascii ['l', 'u', 'i']
  | .auipc _ _ => ascii ['a', 'u', 'i', 'p', 'c']
  | .jal _ _ => ascii ['j', 'a', 'l']
  | .ecall => ascii ['e', 'c', 'a', 'l', 'l']
  | .ebreak => ascii ['e', 'b', 'r', 'e', 'a', 'k']
  | .fenceTso => ascii ['f', 'e', 'n', 'c', 'e', '.', 't', 's', 'o']
  | .pause => ascii ['p', 'a', 'u', 's', 'e']

/-- The format family of an instruction (rule R77). -/
def Instr.family : Instr → Family
  | .add _ _ _ => .r
  | .sub _ _ _ => .r
  | .sll _ _ _ => .r
  | .slt _ _ _ => .r
  | .sltu _ _ _ => .r
  | .xor _ _ _ => .r
  | .srl _ _ _ => .r
  | .sra _ _ _ => .r
  | .or _ _ _ => .r
  | .and _ _ _ => .r
  | .addi _ _ _ => .iArith
  | .slti _ _ _ => .iArith
  | .sltiu _ _ _ => .iArith
  | .xori _ _ _ => .iArith
  | .ori _ _ _ => .iArith
  | .andi _ _ _ => .iArith
  | .lb _ _ _ => .iLoadJalr
  | .lh _ _ _ => .iLoadJalr
  | .lw _ _ _ => .iLoadJalr
  | .lbu _ _ _ => .iLoadJalr
  | .lhu _ _ _ => .iLoadJalr
  | .jalr _ _ _ => .iLoadJalr
  | .slli _ _ _ => .iShift
  | .srli _ _ _ => .iShift
  | .srai _ _ _ => .iShift
  | .sb _ _ _ => .s
  | .sh _ _ _ => .s
  | .sw _ _ _ => .s
  | .beq _ _ _ => .b
  | .bne _ _ _ => .b
  | .blt _ _ _ => .b
  | .bge _ _ _ => .b
  | .bltu _ _ _ => .b
  | .bgeu _ _ _ => .b
  | .lui _ _ => .u
  | .auipc _ _ => .u
  | .jal _ _ => .j
  | .ecall => .fixed
  | .ebreak => .fixed
  | .fenceTso => .fixed
  | .pause => .fixed

/-- Binds the operands of shape reg, reg, reg to a constructor (rule R78). -/
def ofRegRegReg (c : RegId → RegId → RegId → Instr) : Operands → Option Instr
  | .regRegReg x y z => some (c x y z)
  | _ => none

/-- Binds the operands of shape reg, reg, imm to a constructor (rule R78; conflict C7 for the branches). -/
def ofRegRegImm (c : RegId → RegId → Int → Instr) : Operands → Option Instr
  | .regRegImm x y v => some (c x y v)
  | _ => none

/-- Binds the operands of shape reg, mem to a constructor: the first register, the base register, the offset (rule R78). -/
def ofRegMem (c : RegId → RegId → Int → Instr) : Operands → Option Instr
  | .regMem x offset base => some (c x base offset)
  | _ => none

/-- Binds the operands of shape reg, imm to a constructor (rule R78). -/
def ofRegImm (c : RegId → Int → Instr) : Operands → Option Instr
  | .regImm x v => some (c x v)
  | _ => none

/-- Binds no operands (rule R78, Fixed). -/
def ofNoOperand (i : Instr) : Operands → Option Instr
  | .noOperand => some i
  | _ => none

/-- The R mnemonics and what each does with its operands (rules R77, R78). -/
def rBinders : List (Text × (Operands → Option Instr)) :=
  [(ascii ['a', 'd', 'd'], ofRegRegReg .add),
   (ascii ['s', 'u', 'b'], ofRegRegReg .sub),
   (ascii ['s', 'l', 'l'], ofRegRegReg .sll),
   (ascii ['s', 'l', 't'], ofRegRegReg .slt),
   (ascii ['s', 'l', 't', 'u'], ofRegRegReg .sltu),
   (ascii ['x', 'o', 'r'], ofRegRegReg .xor),
   (ascii ['s', 'r', 'l'], ofRegRegReg .srl),
   (ascii ['s', 'r', 'a'], ofRegRegReg .sra),
   (ascii ['o', 'r'], ofRegRegReg .or),
   (ascii ['a', 'n', 'd'], ofRegRegReg .and)]

/-- The I-arith mnemonics and what each does with its operands (rules R77, R78). -/
def iArithBinders : List (Text × (Operands → Option Instr)) :=
  [(ascii ['a', 'd', 'd', 'i'], ofRegRegImm .addi),
   (ascii ['s', 'l', 't', 'i'], ofRegRegImm .slti),
   (ascii ['s', 'l', 't', 'i', 'u'], ofRegRegImm .sltiu),
   (ascii ['x', 'o', 'r', 'i'], ofRegRegImm .xori),
   (ascii ['o', 'r', 'i'], ofRegRegImm .ori),
   (ascii ['a', 'n', 'd', 'i'], ofRegRegImm .andi)]

/-- The I-load/jalr mnemonics and what each does with its operands (rules R77, R78). -/
def iLoadJalrBinders : List (Text × (Operands → Option Instr)) :=
  [(ascii ['l', 'b'], ofRegMem .lb),
   (ascii ['l', 'h'], ofRegMem .lh),
   (ascii ['l', 'w'], ofRegMem .lw),
   (ascii ['l', 'b', 'u'], ofRegMem .lbu),
   (ascii ['l', 'h', 'u'], ofRegMem .lhu),
   (ascii ['j', 'a', 'l', 'r'], ofRegMem .jalr)]

/-- The I-shift mnemonics and what each does with its operands (rules R77, R78). -/
def iShiftBinders : List (Text × (Operands → Option Instr)) :=
  [(ascii ['s', 'l', 'l', 'i'], ofRegRegImm .slli),
   (ascii ['s', 'r', 'l', 'i'], ofRegRegImm .srli),
   (ascii ['s', 'r', 'a', 'i'], ofRegRegImm .srai)]

/-- The S mnemonics and what each does with its operands (rules R77, R78). -/
def sBinders : List (Text × (Operands → Option Instr)) :=
  [(ascii ['s', 'b'], ofRegMem .sb),
   (ascii ['s', 'h'], ofRegMem .sh),
   (ascii ['s', 'w'], ofRegMem .sw)]

/-- The B mnemonics and what each does with its operands (rules R77, R78). -/
def bBinders : List (Text × (Operands → Option Instr)) :=
  [(ascii ['b', 'e', 'q'], ofRegRegImm .beq),
   (ascii ['b', 'n', 'e'], ofRegRegImm .bne),
   (ascii ['b', 'l', 't'], ofRegRegImm .blt),
   (ascii ['b', 'g', 'e'], ofRegRegImm .bge),
   (ascii ['b', 'l', 't', 'u'], ofRegRegImm .bltu),
   (ascii ['b', 'g', 'e', 'u'], ofRegRegImm .bgeu)]

/-- The U mnemonics and what each does with its operands (rules R77, R78). -/
def uBinders : List (Text × (Operands → Option Instr)) :=
  [(ascii ['l', 'u', 'i'], ofRegImm .lui),
   (ascii ['a', 'u', 'i', 'p', 'c'], ofRegImm .auipc)]

/-- The J mnemonics and what each does with its operands (rules R77, R78). -/
def jBinders : List (Text × (Operands → Option Instr)) :=
  [(ascii ['j', 'a', 'l'], ofRegImm .jal)]

/-- The Fixed mnemonics and what each does with its operands (rules R77, R78). -/
def fixedBinders : List (Text × (Operands → Option Instr)) :=
  [(ascii ['e', 'c', 'a', 'l', 'l'], ofNoOperand .ecall),
   (ascii ['e', 'b', 'r', 'e', 'a', 'k'], ofNoOperand .ebreak),
   (ascii ['f', 'e', 'n', 'c', 'e', '.', 't', 's', 'o'], ofNoOperand .fenceTso),
   (ascii ['p', 'a', 'u', 's', 'e'], ofNoOperand .pause)]

/-- The instruction a mnemonic and its bound operands make (rules R77, R78); `none` if the mnemonic takes another shape. -/
def bindOperands (m : Text) (ops : Operands) : Option Instr :=
  match lookup m (rBinders ++ iArithBinders ++ iLoadJalrBinders ++ iShiftBinders ++ sBinders ++ bBinders ++ uBinders ++ jBinders ++ fixedBinders) with
  | none => none
  | some binder => binder ops

/-- The front half of an encode call (rule R70): fold, trim, mnemonic, family, operand tokens, shape. It is total on any bytes. -/
def parse (t : Tables) (T : Text) : Except ErrorKind Instr :=
  match splitMnemonic (trim (foldText T)) with
  | (m, rest) =>
    if m = [] then .error .unrecognizedMnemonic
    else
      match lookup m t.family with
      | none => .error .unrecognizedMnemonic
      | some fam =>
        match splitOperands rest with
        | .error e => .error e
        | .ok toks =>
          match matchShape t fam toks with
          | .error e => .error e
          | .ok ops =>
            match bindOperands m ops with
            | none => .error .malformedOperands
            | some i => .ok i

/-- `check_immediate(fam, ops)` (rules R70, R86 to R90): the first check that fails. -/
def Instr.checkImmediate : Instr → Option ErrorKind
  | .add _ _ _ => none
  | .sub _ _ _ => none
  | .sll _ _ _ => none
  | .slt _ _ _ => none
  | .sltu _ _ _ => none
  | .xor _ _ _ => none
  | .srl _ _ _ => none
  | .sra _ _ _ => none
  | .or _ _ _ => none
  | .and _ _ _ => none
  | .addi _ _ imm => checkImm12 imm
  | .slti _ _ imm => checkImm12 imm
  | .sltiu _ _ imm => checkImm12 imm
  | .xori _ _ imm => checkImm12 imm
  | .ori _ _ imm => checkImm12 imm
  | .andi _ _ imm => checkImm12 imm
  | .lb _ _ offset => checkImm12 offset
  | .lh _ _ offset => checkImm12 offset
  | .lw _ _ offset => checkImm12 offset
  | .lbu _ _ offset => checkImm12 offset
  | .lhu _ _ offset => checkImm12 offset
  | .jalr _ _ offset => checkImm12 offset
  | .slli _ _ shamt => checkShamt shamt
  | .srli _ _ shamt => checkShamt shamt
  | .srai _ _ shamt => checkShamt shamt
  | .sb _ _ offset => checkImm12 offset
  | .sh _ _ offset => checkImm12 offset
  | .sw _ _ offset => checkImm12 offset
  | .beq _ _ offset => checkImm13 offset
  | .bne _ _ offset => checkImm13 offset
  | .blt _ _ offset => checkImm13 offset
  | .bge _ _ offset => checkImm13 offset
  | .bltu _ _ offset => checkImm13 offset
  | .bgeu _ _ offset => checkImm13 offset
  | .lui _ imm => checkImm20 imm
  | .auipc _ imm => checkImm20 imm
  | .jal _ offset => checkImm21 offset
  | .ecall => none
  | .ebreak => none
  | .fenceTso => none
  | .pause => none

/-- The word of an instruction, each arm the pseudocode of its own rule (R201 to R363): the fields in the family's format, with the
constants the rule gives. For an instruction that is not well formed it is a word of no meaning: the encode call raises an error first. -/
def encode : Instr → Word
  | .add rd rs1 rs2 => fmtR 0b0000000#7 rs2 rs1 0b000#3 rd 0b0110011#7
  | .sub rd rs1 rs2 => fmtR 0b0100000#7 rs2 rs1 0b000#3 rd 0b0110011#7
  | .sll rd rs1 rs2 => fmtR 0b0000000#7 rs2 rs1 0b001#3 rd 0b0110011#7
  | .slt rd rs1 rs2 => fmtR 0b0000000#7 rs2 rs1 0b010#3 rd 0b0110011#7
  | .sltu rd rs1 rs2 => fmtR 0b0000000#7 rs2 rs1 0b011#3 rd 0b0110011#7
  | .xor rd rs1 rs2 => fmtR 0b0000000#7 rs2 rs1 0b100#3 rd 0b0110011#7
  | .srl rd rs1 rs2 => fmtR 0b0000000#7 rs2 rs1 0b101#3 rd 0b0110011#7
  | .sra rd rs1 rs2 => fmtR 0b0100000#7 rs2 rs1 0b101#3 rd 0b0110011#7
  | .or rd rs1 rs2 => fmtR 0b0000000#7 rs2 rs1 0b110#3 rd 0b0110011#7
  | .and rd rs1 rs2 => fmtR 0b0000000#7 rs2 rs1 0b111#3 rd 0b0110011#7
  | .addi rd rs1 imm => fmtI (tc 12 imm) rs1 0b000#3 rd 0b0010011#7
  | .slti rd rs1 imm => fmtI (tc 12 imm) rs1 0b010#3 rd 0b0010011#7
  | .sltiu rd rs1 imm => fmtI (tc 12 imm) rs1 0b011#3 rd 0b0010011#7
  | .xori rd rs1 imm => fmtI (tc 12 imm) rs1 0b100#3 rd 0b0010011#7
  | .ori rd rs1 imm => fmtI (tc 12 imm) rs1 0b110#3 rd 0b0010011#7
  | .andi rd rs1 imm => fmtI (tc 12 imm) rs1 0b111#3 rd 0b0010011#7
  | .lb rd rs1 offset => fmtI (maskFFF offset) rs1 0b000#3 rd 0b0000011#7
  | .lh rd rs1 offset => fmtI (maskFFF offset) rs1 0b001#3 rd 0b0000011#7
  | .lw rd rs1 offset => fmtI (maskFFF offset) rs1 0b010#3 rd 0b0000011#7
  | .lbu rd rs1 offset => fmtI (maskFFF offset) rs1 0b100#3 rd 0b0000011#7
  | .lhu rd rs1 offset => fmtI (maskFFF offset) rs1 0b101#3 rd 0b0000011#7
  | .jalr rd rs1 offset => fmtI (maskFFF offset) rs1 0b000#3 rd 0b1100111#7
  | .slli rd rs1 shamt => fmtIShift 0b0000000#7 (tc 5 shamt) rs1 0b001#3 rd 0b0010011#7
  | .srli rd rs1 shamt => fmtIShift 0b0000000#7 (tc 5 shamt) rs1 0b101#3 rd 0b0010011#7
  | .srai rd rs1 shamt => fmtIShift 0b0100000#7 (tc 5 shamt) rs1 0b101#3 rd 0b0010011#7
  | .sb rs2 rs1 offset => fmtS (maskFFF offset) rs2 rs1 0b000#3 0b0100011#7
  | .sh rs2 rs1 offset => fmtS (maskFFF offset) rs2 rs1 0b001#3 0b0100011#7
  | .sw rs2 rs1 offset => fmtS (maskFFF offset) rs2 rs1 0b010#3 0b0100011#7
  | .beq rs1 rs2 offset => fmtB (tc 13 offset) rs2 rs1 0b000#3 0b1100011#7
  | .bne rs1 rs2 offset => fmtB (tc 13 offset) rs2 rs1 0b001#3 0b1100011#7
  | .blt rs1 rs2 offset => fmtB (tc 13 offset) rs2 rs1 0b100#3 0b1100011#7
  | .bge rs1 rs2 offset => fmtB (tc 13 offset) rs2 rs1 0b101#3 0b1100011#7
  | .bltu rs1 rs2 offset => fmtB (tc 13 offset) rs2 rs1 0b110#3 0b1100011#7
  | .bgeu rs1 rs2 offset => fmtB (tc 13 offset) rs2 rs1 0b111#3 0b1100011#7
  | .lui rd imm => fmtU (tc 20 imm) rd 0b0110111#7
  | .auipc rd imm => fmtU (tc 20 imm) rd 0b0010111#7
  | .jal rd offset => fmtJ (tc 21 offset) rd 0b1101111#7
  | .ecall => 0x00000073#32
  | .ebreak => 0x00100073#32
  | .fenceTso => 0x8330000F#32
  | .pause => 0x0100000F#32

/-- One encode call as a pure function of its text (rules R23, R70): the word, or the first error raised. -/
def encodeText (t : Tables) (T : Text) : Except ErrorKind Word :=
  match parse t T with
  | .error e => .error e
  | .ok i =>
    match i.checkImmediate with
    | some e => .error e
    | none => .ok (encode i)

/-- Why a word is no word of the opcode table. None of these arises in the block, which never decodes words (rule R7). -/
inductive WordReject where
  /-- The major opcode is none of rule R104 and none of the fixed words' (rule R113). -/
  | unknownOpcode
  /-- The opcode is known, the funct3 and funct7 combination is not (rules R105 to R110). -/
  | unknownFunct
  /-- The opcode is that of a fixed word, the word is not one of rule R113. -/
  | unknownFixedWord
  deriving DecidableEq, Repr

/-- Words with opcode 0110011 (rules R91, R105). -/
def decodeR (w : Word) : Except WordReject Instr :=
  match funct7Of w, funct3Of w with
  | 0b0000000#7, 0b000#3 => .ok (.add (rdOf w) (rs1Of w) (rs2Of w))
  | 0b0100000#7, 0b000#3 => .ok (.sub (rdOf w) (rs1Of w) (rs2Of w))
  | 0b0000000#7, 0b001#3 => .ok (.sll (rdOf w) (rs1Of w) (rs2Of w))
  | 0b0000000#7, 0b010#3 => .ok (.slt (rdOf w) (rs1Of w) (rs2Of w))
  | 0b0000000#7, 0b011#3 => .ok (.sltu (rdOf w) (rs1Of w) (rs2Of w))
  | 0b0000000#7, 0b100#3 => .ok (.xor (rdOf w) (rs1Of w) (rs2Of w))
  | 0b0000000#7, 0b101#3 => .ok (.srl (rdOf w) (rs1Of w) (rs2Of w))
  | 0b0100000#7, 0b101#3 => .ok (.sra (rdOf w) (rs1Of w) (rs2Of w))
  | 0b0000000#7, 0b110#3 => .ok (.or (rdOf w) (rs1Of w) (rs2Of w))
  | 0b0000000#7, 0b111#3 => .ok (.and (rdOf w) (rs1Of w) (rs2Of w))
  | _, _ => .error .unknownFunct

/-- Words with opcode 0010011 and a funct3 of the shifts (rules R93, R108). -/
def decodeIShift (w : Word) : Except WordReject Instr :=
  match funct7Of w, funct3Of w with
  | 0b0000000#7, 0b001#3 => .ok (.slli (rdOf w) (rs1Of w) (shamtOf w))
  | 0b0000000#7, 0b101#3 => .ok (.srli (rdOf w) (rs1Of w) (shamtOf w))
  | 0b0100000#7, 0b101#3 => .ok (.srai (rdOf w) (rs1Of w) (shamtOf w))
  | _, _ => .error .unknownFunct

/-- Words with opcode 0010011 (rules R92, R106). -/
def decodeOpImm (w : Word) : Except WordReject Instr :=
  match funct3Of w with
  | 0b000#3 => .ok (.addi (rdOf w) (rs1Of w) (immIOf w))
  | 0b010#3 => .ok (.slti (rdOf w) (rs1Of w) (immIOf w))
  | 0b011#3 => .ok (.sltiu (rdOf w) (rs1Of w) (immIOf w))
  | 0b100#3 => .ok (.xori (rdOf w) (rs1Of w) (immIOf w))
  | 0b110#3 => .ok (.ori (rdOf w) (rs1Of w) (immIOf w))
  | 0b111#3 => .ok (.andi (rdOf w) (rs1Of w) (immIOf w))
  | _ => decodeIShift w

/-- Words with opcode 0000011 (rules R92, R107). -/
def decodeLoad (w : Word) : Except WordReject Instr :=
  match funct3Of w with
  | 0b000#3 => .ok (.lb (rdOf w) (rs1Of w) (immIOf w))
  | 0b001#3 => .ok (.lh (rdOf w) (rs1Of w) (immIOf w))
  | 0b010#3 => .ok (.lw (rdOf w) (rs1Of w) (immIOf w))
  | 0b100#3 => .ok (.lbu (rdOf w) (rs1Of w) (immIOf w))
  | 0b101#3 => .ok (.lhu (rdOf w) (rs1Of w) (immIOf w))
  | _ => .error .unknownFunct

/-- Words with opcode 1100111 (rules R92, R107). -/
def decodeJalr (w : Word) : Except WordReject Instr :=
  match funct3Of w with
  | 0b000#3 => .ok (.jalr (rdOf w) (rs1Of w) (immIOf w))
  | _ => .error .unknownFunct

/-- Words with opcode 0100011 (rules R94, R109). -/
def decodeStore (w : Word) : Except WordReject Instr :=
  match funct3Of w with
  | 0b000#3 => .ok (.sb (rs2Of w) (rs1Of w) (immSOf w))
  | 0b001#3 => .ok (.sh (rs2Of w) (rs1Of w) (immSOf w))
  | 0b010#3 => .ok (.sw (rs2Of w) (rs1Of w) (immSOf w))
  | _ => .error .unknownFunct

/-- Words with opcode 1100011 (rules R95, R110). -/
def decodeBranch (w : Word) : Except WordReject Instr :=
  match funct3Of w with
  | 0b000#3 => .ok (.beq (rs1Of w) (rs2Of w) (immBOf w))
  | 0b001#3 => .ok (.bne (rs1Of w) (rs2Of w) (immBOf w))
  | 0b100#3 => .ok (.blt (rs1Of w) (rs2Of w) (immBOf w))
  | 0b101#3 => .ok (.bge (rs1Of w) (rs2Of w) (immBOf w))
  | 0b110#3 => .ok (.bltu (rs1Of w) (rs2Of w) (immBOf w))
  | 0b111#3 => .ok (.bgeu (rs1Of w) (rs2Of w) (immBOf w))
  | _ => .error .unknownFunct

/-- Words with opcode 1110011 or 0001111: the four fixed words and no other (rule R113). -/
def decodeFixed (w : Word) : Except WordReject Instr :=
  match w with
  | 0x00000073#32 => .ok .ecall
  | 0x00100073#32 => .ok .ebreak
  | 0x8330000F#32 => .ok .fenceTso
  | 0x0100000F#32 => .ok .pause
  | _ => .error .unknownFixedWord

/-- The inverse decoder: the instruction a word stands for (rules R103 to R113), or the reason it stands for none. -/
def decodeWord (w : Word) : Except WordReject Instr :=
  match opcodeOf w with
  | 0b0110011#7 => decodeR w
  | 0b0010011#7 => decodeOpImm w
  | 0b0000011#7 => decodeLoad w
  | 0b1100111#7 => decodeJalr w
  | 0b0100011#7 => decodeStore w
  | 0b1100011#7 => decodeBranch w
  | 0b0110111#7 => .ok (.lui (rdOf w) (immUOf w))
  | 0b0010111#7 => .ok (.auipc (rdOf w) (immUOf w))
  | 0b1101111#7 => .ok (.jal (rdOf w) (immJOf w))
  | 0b1110011#7 => decodeFixed w
  | 0b0001111#7 => decodeFixed w
  | _ => .error .unknownOpcode

/-- The instruction of an opcode-table word: its low `nbits` bits, which must be a 32-bit word (rule R118), given to `decodeWord`. -/
def decodeTableWord (nbits w : Nat) : Option Instr :=
  if w % 2 ^ nbits < 2 ^ 32 then
    match decodeWord (BitVec.ofNat 32 (w % 2 ^ nbits)) with
    | .ok i => some i
    | .error _ => none
  else none

/-- What `decodeWord` gives back for an encoded instruction (rule R103): the instruction itself, except for U, where the immediate comes
back as its 20-bit pattern. -/
def Instr.canonical : Instr → Instr
  | .add rd rs1 rs2 => .add rd rs1 rs2
  | .sub rd rs1 rs2 => .sub rd rs1 rs2
  | .sll rd rs1 rs2 => .sll rd rs1 rs2
  | .slt rd rs1 rs2 => .slt rd rs1 rs2
  | .sltu rd rs1 rs2 => .sltu rd rs1 rs2
  | .xor rd rs1 rs2 => .xor rd rs1 rs2
  | .srl rd rs1 rs2 => .srl rd rs1 rs2
  | .sra rd rs1 rs2 => .sra rd rs1 rs2
  | .or rd rs1 rs2 => .or rd rs1 rs2
  | .and rd rs1 rs2 => .and rd rs1 rs2
  | .addi rd rs1 imm => .addi rd rs1 imm
  | .slti rd rs1 imm => .slti rd rs1 imm
  | .sltiu rd rs1 imm => .sltiu rd rs1 imm
  | .xori rd rs1 imm => .xori rd rs1 imm
  | .ori rd rs1 imm => .ori rd rs1 imm
  | .andi rd rs1 imm => .andi rd rs1 imm
  | .lb rd rs1 offset => .lb rd rs1 offset
  | .lh rd rs1 offset => .lh rd rs1 offset
  | .lw rd rs1 offset => .lw rd rs1 offset
  | .lbu rd rs1 offset => .lbu rd rs1 offset
  | .lhu rd rs1 offset => .lhu rd rs1 offset
  | .jalr rd rs1 offset => .jalr rd rs1 offset
  | .slli rd rs1 shamt => .slli rd rs1 shamt
  | .srli rd rs1 shamt => .srli rd rs1 shamt
  | .srai rd rs1 shamt => .srai rd rs1 shamt
  | .sb rs2 rs1 offset => .sb rs2 rs1 offset
  | .sh rs2 rs1 offset => .sh rs2 rs1 offset
  | .sw rs2 rs1 offset => .sw rs2 rs1 offset
  | .beq rs1 rs2 offset => .beq rs1 rs2 offset
  | .bne rs1 rs2 offset => .bne rs1 rs2 offset
  | .blt rs1 rs2 offset => .blt rs1 rs2 offset
  | .bge rs1 rs2 offset => .bge rs1 rs2 offset
  | .bltu rs1 rs2 offset => .bltu rs1 rs2 offset
  | .bgeu rs1 rs2 offset => .bgeu rs1 rs2 offset
  | .lui rd imm => .lui rd ((tc 20 imm).toNat : Int)
  | .auipc rd imm => .auipc rd ((tc 20 imm).toNat : Int)
  | .jal rd offset => .jal rd offset
  | .ecall => .ecall
  | .ebreak => .ebreak
  | .fenceTso => .fenceTso
  | .pause => .pause

/-- One row of `spec/opcode_table.json`: a word `w` matches it when `w &&& mask = value`. -/
structure OpcodeRow where
  mnemonic : Text
  mask : Word
  value : Word
  deriving DecidableEq, Repr

/-- `spec/opcode_table.json`, row by row: mnemonic, mask, match. -/
def opcodeTable : List OpcodeRow :=
  [⟨ascii ['a', 'd', 'd'], 0xFE00707F#32, 0x00000033#32⟩,
   ⟨ascii ['s', 'u', 'b'], 0xFE00707F#32, 0x40000033#32⟩,
   ⟨ascii ['s', 'l', 'l'], 0xFE00707F#32, 0x00001033#32⟩,
   ⟨ascii ['s', 'l', 't'], 0xFE00707F#32, 0x00002033#32⟩,
   ⟨ascii ['s', 'l', 't', 'u'], 0xFE00707F#32, 0x00003033#32⟩,
   ⟨ascii ['x', 'o', 'r'], 0xFE00707F#32, 0x00004033#32⟩,
   ⟨ascii ['s', 'r', 'l'], 0xFE00707F#32, 0x00005033#32⟩,
   ⟨ascii ['s', 'r', 'a'], 0xFE00707F#32, 0x40005033#32⟩,
   ⟨ascii ['o', 'r'], 0xFE00707F#32, 0x00006033#32⟩,
   ⟨ascii ['a', 'n', 'd'], 0xFE00707F#32, 0x00007033#32⟩,
   ⟨ascii ['a', 'd', 'd', 'i'], 0x0000707F#32, 0x00000013#32⟩,
   ⟨ascii ['s', 'l', 't', 'i'], 0x0000707F#32, 0x00002013#32⟩,
   ⟨ascii ['s', 'l', 't', 'i', 'u'], 0x0000707F#32, 0x00003013#32⟩,
   ⟨ascii ['x', 'o', 'r', 'i'], 0x0000707F#32, 0x00004013#32⟩,
   ⟨ascii ['o', 'r', 'i'], 0x0000707F#32, 0x00006013#32⟩,
   ⟨ascii ['a', 'n', 'd', 'i'], 0x0000707F#32, 0x00007013#32⟩,
   ⟨ascii ['l', 'b'], 0x0000707F#32, 0x00000003#32⟩,
   ⟨ascii ['l', 'h'], 0x0000707F#32, 0x00001003#32⟩,
   ⟨ascii ['l', 'w'], 0x0000707F#32, 0x00002003#32⟩,
   ⟨ascii ['l', 'b', 'u'], 0x0000707F#32, 0x00004003#32⟩,
   ⟨ascii ['l', 'h', 'u'], 0x0000707F#32, 0x00005003#32⟩,
   ⟨ascii ['j', 'a', 'l', 'r'], 0x0000707F#32, 0x00000067#32⟩,
   ⟨ascii ['s', 'l', 'l', 'i'], 0xFE00707F#32, 0x00001013#32⟩,
   ⟨ascii ['s', 'r', 'l', 'i'], 0xFE00707F#32, 0x00005013#32⟩,
   ⟨ascii ['s', 'r', 'a', 'i'], 0xFE00707F#32, 0x40005013#32⟩,
   ⟨ascii ['s', 'b'], 0x0000707F#32, 0x00000023#32⟩,
   ⟨ascii ['s', 'h'], 0x0000707F#32, 0x00001023#32⟩,
   ⟨ascii ['s', 'w'], 0x0000707F#32, 0x00002023#32⟩,
   ⟨ascii ['b', 'e', 'q'], 0x0000707F#32, 0x00000063#32⟩,
   ⟨ascii ['b', 'n', 'e'], 0x0000707F#32, 0x00001063#32⟩,
   ⟨ascii ['b', 'l', 't'], 0x0000707F#32, 0x00004063#32⟩,
   ⟨ascii ['b', 'g', 'e'], 0x0000707F#32, 0x00005063#32⟩,
   ⟨ascii ['b', 'l', 't', 'u'], 0x0000707F#32, 0x00006063#32⟩,
   ⟨ascii ['b', 'g', 'e', 'u'], 0x0000707F#32, 0x00007063#32⟩,
   ⟨ascii ['l', 'u', 'i'], 0x0000007F#32, 0x00000037#32⟩,
   ⟨ascii ['a', 'u', 'i', 'p', 'c'], 0x0000007F#32, 0x00000017#32⟩,
   ⟨ascii ['j', 'a', 'l'], 0x0000007F#32, 0x0000006F#32⟩,
   ⟨ascii ['e', 'c', 'a', 'l', 'l'], 0xFFFFFFFF#32, 0x00000073#32⟩,
   ⟨ascii ['e', 'b', 'r', 'e', 'a', 'k'], 0xFFFFFFFF#32, 0x00100073#32⟩,
   ⟨ascii ['f', 'e', 'n', 'c', 'e', '.', 't', 's', 'o'], 0xFFFFFFFF#32, 0x8330000F#32⟩,
   ⟨ascii ['p', 'a', 'u', 's', 'e'], 0xFFFFFFFF#32, 0x0100000F#32⟩]

/-- A word matches a row of the opcode table. -/
def OpcodeRow.matchesWord (row : OpcodeRow) (w : Word) : Bool := w &&& row.mask == row.value

/-- A comma and a space, one separator (rule R75). -/
def commaSpace : Text := [0x2C#8, 0x20#8]

/-- A register as its canonical name (rule R28). -/
def printReg (r : RegId) : Text := 0x78#8 :: decimal r.toNat

/-- An integer as an immediate token without `+` and without leading zeros (rule R84). -/
def printImm : Int → Text
  | .ofNat n => decimal n
  | .negSucc n => 0x2D#8 :: decimal (n + 1)

/-- A memory operand `I(R)` (rule R85). -/
def printMem (offset : Int) (base : RegId) : Text := printImm offset ++ (0x28#8 :: (printReg base ++ [0x29#8]))

/-- The operands of an instruction as tokens, in the order of rule R78. -/
def Instr.operandTokens : Instr → List Text
  | .add rd rs1 rs2 => [printReg rd, printReg rs1, printReg rs2]
  | .sub rd rs1 rs2 => [printReg rd, printReg rs1, printReg rs2]
  | .sll rd rs1 rs2 => [printReg rd, printReg rs1, printReg rs2]
  | .slt rd rs1 rs2 => [printReg rd, printReg rs1, printReg rs2]
  | .sltu rd rs1 rs2 => [printReg rd, printReg rs1, printReg rs2]
  | .xor rd rs1 rs2 => [printReg rd, printReg rs1, printReg rs2]
  | .srl rd rs1 rs2 => [printReg rd, printReg rs1, printReg rs2]
  | .sra rd rs1 rs2 => [printReg rd, printReg rs1, printReg rs2]
  | .or rd rs1 rs2 => [printReg rd, printReg rs1, printReg rs2]
  | .and rd rs1 rs2 => [printReg rd, printReg rs1, printReg rs2]
  | .addi rd rs1 imm => [printReg rd, printReg rs1, printImm imm]
  | .slti rd rs1 imm => [printReg rd, printReg rs1, printImm imm]
  | .sltiu rd rs1 imm => [printReg rd, printReg rs1, printImm imm]
  | .xori rd rs1 imm => [printReg rd, printReg rs1, printImm imm]
  | .ori rd rs1 imm => [printReg rd, printReg rs1, printImm imm]
  | .andi rd rs1 imm => [printReg rd, printReg rs1, printImm imm]
  | .lb rd rs1 offset => [printReg rd, printMem offset rs1]
  | .lh rd rs1 offset => [printReg rd, printMem offset rs1]
  | .lw rd rs1 offset => [printReg rd, printMem offset rs1]
  | .lbu rd rs1 offset => [printReg rd, printMem offset rs1]
  | .lhu rd rs1 offset => [printReg rd, printMem offset rs1]
  | .jalr rd rs1 offset => [printReg rd, printMem offset rs1]
  | .slli rd rs1 shamt => [printReg rd, printReg rs1, printImm shamt]
  | .srli rd rs1 shamt => [printReg rd, printReg rs1, printImm shamt]
  | .srai rd rs1 shamt => [printReg rd, printReg rs1, printImm shamt]
  | .sb rs2 rs1 offset => [printReg rs2, printMem offset rs1]
  | .sh rs2 rs1 offset => [printReg rs2, printMem offset rs1]
  | .sw rs2 rs1 offset => [printReg rs2, printMem offset rs1]
  | .beq rs1 rs2 offset => [printReg rs1, printReg rs2, printImm offset]
  | .bne rs1 rs2 offset => [printReg rs1, printReg rs2, printImm offset]
  | .blt rs1 rs2 offset => [printReg rs1, printReg rs2, printImm offset]
  | .bge rs1 rs2 offset => [printReg rs1, printReg rs2, printImm offset]
  | .bltu rs1 rs2 offset => [printReg rs1, printReg rs2, printImm offset]
  | .bgeu rs1 rs2 offset => [printReg rs1, printReg rs2, printImm offset]
  | .lui rd imm => [printReg rd, printImm imm]
  | .auipc rd imm => [printReg rd, printImm imm]
  | .jal rd offset => [printReg rd, printImm offset]
  | .ecall => []
  | .ebreak => []
  | .fenceTso => []
  | .pause => []

/-- Operand tokens after a mnemonic: a space before the first, a comma and a space before each other (rules R75, R120). -/
def printOperands : List Text → Text
  | [] => []
  | a :: rest => 0x20#8 :: a ++ (rest.map fun b => commaSpace ++ b).flatten

/-- One canonical input line of an instruction (rule R120): lowercase, canonical register names, decimal immediates. -/
def print (i : Instr) : Text := i.mnemonic ++ printOperands i.operandTokens

end Sys2Proof
end

