-- ==== Sys2Proof/Machine/Flags.lean ====
section
/-! DEFINITION. The block has no flags and no condition codes (rule R30). Its one status output is `out_err`; this file holds its codes
(rule R400, decision D12). -/

namespace Sys2Proof

/-- The code of an error kind on `out_err` (rule R400). -/
def ErrorKind.code : ErrorKind → BitVec 3
  | .unrecognizedMnemonic => 1#3
  | .malformedOperands => 2#3
  | .immediateOutOfRange => 3#3
  | .immediateMisaligned => 4#3

/-- `out_err` when there is no error (rule R400). -/
def okCode : BitVec 3 := 0#3

end Sys2Proof
end

