-- ==== Sys2Proof/Machine/State.lean ====
section
/-! DEFINITION. The machine's state, its refusals, and its state at reset.
The block's only storage is its constant tables (rule R21); beside them State holds the ports of rule R22, so that one encode call is one
step from the input ports to the output ports (rule R453). The spec gives the block no register file (R20), no program counter (R26), no
flags (R30), no control registers (R31), no memory (R36, R50), no hidden state (R34), no trap, interrupt or privilege state (R404, R406,
R407): State has none. -/

namespace Sys2Proof.Machine

/-- The state of one encoder: plain data. -/
structure State where
  /-- The constant tables (rules R21, R24, R25, R33). -/
  tables : Tables
  /-- Input port `in_text`, byte 0 first; its length is the capacity N_TEXT (rule R22, decision D2, log entry 2). -/
  inText : List Byte
  /-- Input port `in_len`: how many bytes of `in_text` are meaningful (rule R22). -/
  inLen : Nat
  /-- Output port `out_word` (rule R22). -/
  outWord : Word
  /-- Output port `out_err` (rules R22, R400). -/
  outErr : BitVec 3
  deriving DecidableEq, Repr

/-- Faults of the machine: there are none. The spec gives the block no trap and no stop (rule R404); an error kind is an output
(rule R402), so it is a next state. Nothing raises a fault; log entry 6. -/
inductive Fault where
  deriving DecidableEq, Repr

/-- Why a step may be refused. -/
inductive Refusal where
  /-- Raised by an arm of exec for an instruction that has no meaning yet. Safe: nothing is claimed of it. No arm uses it now. -/
  | notModelled (mnemonic : String)
  /-- Raised by `fetch` and by every meaning when the tables do not hold their constant contents: rule R451 says of such a block "Until
  that is done the block is outside this spec". Safe. -/
  | tablesNotLoaded
  /-- Raised by `fetch` when `in_len` is above N_TEXT: 93_implementation_defined.md U8 says "Inputs longer than N_TEXT are outside an
  instance". Safe. -/
  | inputBeyondCapacity
  deriving DecidableEq, Repr

/-- What a meaning or a step answers. -/
abbrev Result := Host.Outcome State Fault Refusal

/-- The block after power-up (rules R35, R450): every table at its constant contents, nothing on the input port (DESIGN CHOICE, log entry
3), and the outputs as the function of that input (rules R23, R35): the empty text has no mnemonic (rule R76), so `out_err` is 1 and
`out_word` is zero (rules R400, R402; log entry 4). -/
def State.reset : State where
  tables := Tables.contents
  inText := []
  inLen := 0
  outWord := 0x00000000#32
  outErr := 1#3

end Sys2Proof.Machine
end

