-- ==== Sys2Proof/Machine/Ops.lean ====
section
/-! DEFINITION. The shared operations of the machine: reading the ports and the tables, driving the outputs, raising an error, and the
Format Encoders with the Bit Assembler (rules R70, R91 to R98), each written once per family. -/

namespace Sys2Proof.Machine

/-- The input text `T = in_text[0 : in_len]` (rule R22): bytes at or above `in_len` are ignored. -/
def State.input (s : State) : Text := s.inText.take s.inLen

/-- The environment's write of an input text to the port: the bytes at its end, if any, stay (rule R22; log entry 5). The outputs are not
touched: they are those of the last call until the next one (rule R453). -/
def State.withInput (s : State) (T : Text) : State :=
  { s with inText := T ++ s.inText.drop T.length, inLen := T.length }

/-- The tables, once they hold their constant contents; until then the block is outside the spec (rule R451). -/
def State.loadedTables (s : State) : Option Tables :=
  if s.tables = Tables.contents then some s.tables else none

/-- Drives both output ports and changes nothing else (rules R22, R34). -/
def State.setOutputs (s : State) (word : Word) (err : BitVec 3) : State :=
  { s with outWord := word, outErr := err }

/-- What a consumer reads from the output ports after a call (rule R22): `out_err`, and `out_word` only when `out_err` is 0, since "A
model must not read `out_word` when `out_err != 0`" (rule R402). -/
def State.sample (s : State) : BitVec 3 × Option Word := (s.outErr, if s.outErr = okCode then some s.outWord else none)

/-- `word <- ...`: the call ends with a complete word and no error (rules R22, R55). -/
def driveWord (w : Word) (s : State) : Result := .next (s.setOutputs w okCode)

/-- `raise <ErrorKind>`: the call ends with that error kind's code and a zero word (rules R13, R402). It saves no state, changes no mode
and transfers control nowhere (rule R404); there is nothing to return from (rule R405). -/
def raise (k : ErrorKind) (s : State) : Result := .next (s.setOutputs 0x00000000#32 k.code)

/-- The back half of an encode call (rule R70): `check_immediate`, then the family's encoder over the tables. -/
def encodeCall (check : Option ErrorKind) (word : Tables → Option Word) (s : State) : Result :=
  match s.loadedTables with
  | none => .refused .tablesNotLoaded
  | some t =>
    match check with
    | some k => raise k s
    | none =>
      match word t with
      | none => .refused .tablesNotLoaded
      | some w => driveWord w s

/-- R encoder: `T_FUNCT7[m], rs2, rs1, T_FUNCT3[m], rd, T_OPCODE[m]` (rules R91, R200). -/
def wordR (m : Text) (rd rs1 rs2 : RegId) (t : Tables) : Option Word :=
  match lookup m t.funct7, lookup m t.funct3, lookup m t.opcode with
  | some f7, some f3, some op => some (fmtR f7 rs2 rs1 f3 rd op)
  | _, _, _ => none

/-- I-arith encoder: `tc_12(imm), rs1, T_FUNCT3[m], rd, T_OPCODE[m]` (rules R92, R220). -/
def wordIArith (m : Text) (rd rs1 : RegId) (imm : Int) (t : Tables) : Option Word :=
  match lookup m t.funct3, lookup m t.opcode with
  | some f3, some op => some (fmtI (tc 12 imm) rs1 f3 rd op)
  | _, _ => none

/-- I-load/jalr encoder: `offset & 0xFFF, rs1, T_FUNCT3[m], rd, T_OPCODE[m]` (rules R92, R240). -/
def wordILoadJalr (m : Text) (rd rs1 : RegId) (offset : Int) (t : Tables) : Option Word :=
  match lookup m t.funct3, lookup m t.opcode with
  | some f3, some op => some (fmtI (maskFFF offset) rs1 f3 rd op)
  | _, _ => none

/-- I-shift encoder: `T_FUNCT7[m], shamt, rs1, T_FUNCT3[m], rd, T_OPCODE[m]` (rules R93, R260). -/
def wordIShift (m : Text) (rd rs1 : RegId) (shamt : Int) (t : Tables) : Option Word :=
  match lookup m t.funct7, lookup m t.funct3, lookup m t.opcode with
  | some f7, some f3, some op => some (fmtIShift f7 (tc 5 shamt) rs1 f3 rd op)
  | _, _, _ => none

/-- S encoder, with `imm12 = offset & 0xFFF` (rules R94, R280). -/
def wordS (m : Text) (rs2 rs1 : RegId) (offset : Int) (t : Tables) : Option Word :=
  match lookup m t.funct3, lookup m t.opcode with
  | some f3, some op => some (fmtS (maskFFF offset) rs2 rs1 f3 op)
  | _, _ => none

/-- B encoder, with `imm13 = tc_13(offset)` (rules R95, R300). -/
def wordB (m : Text) (rs1 rs2 : RegId) (offset : Int) (t : Tables) : Option Word :=
  match lookup m t.funct3, lookup m t.opcode with
  | some f3, some op => some (fmtB (tc 13 offset) rs2 rs1 f3 op)
  | _, _ => none

/-- U encoder: `tc_20(imm), rd, T_OPCODE[m]` (rules R96, R320). -/
def wordU (m : Text) (rd : RegId) (imm : Int) (t : Tables) : Option Word :=
  match lookup m t.opcode with
  | some op => some (fmtU (tc 20 imm) rd op)
  | none => none

/-- J encoder, with `imm21 = tc_21(offset)` (rules R97, R340). -/
def wordJ (m : Text) (rd : RegId) (offset : Int) (t : Tables) : Option Word :=
  match lookup m t.opcode with
  | some op => some (fmtJ (tc 21 offset) rd op)
  | none => none

/-- Fixed encoder: `T_FIXED[m]` (rules R98, R359). -/
def wordFixed (m : Text) (t : Tables) : Option Word := lookup m t.fixed

/-- What the front half of an encode call finds on the input port: a parsed instruction, an error kind, or a reason to refuse. -/
inductive Fetched where
  | instr (i : Instr)
  | error (k : ErrorKind)
  | refused (r : Refusal)
  deriving DecidableEq, Repr

/-- The front half of an encode call on the input port (rules R22, R70): refuses an `in_len` above N_TEXT (U8) and tables that are not
loaded (rule R451), else parses the text. -/
def fetch (s : State) : Fetched :=
  if s.inText.length < s.inLen then .refused .inputBeyondCapacity
  else
    match s.loadedTables with
    | none => .refused .tablesNotLoaded
    | some t =>
      match parse t s.input with
      | .error k => .error k
      | .ok i => .instr i

end Sys2Proof.Machine
end

