-- ==== Sys2Proof/Machine/BType.lean ====
section
/-! DEFINITION. B family (rules R300 to R306): range, then alignment, then the word with the scattered `tc_13(offset)`. -/

namespace Sys2Proof.Machine

/-- `beq rs1, rs2, offset` (rule R301). -/
def execBeq (rs1 rs2 : RegId) (offset : Int) (s : State) : Result :=
  encodeCall (checkImm13 offset) (wordB (ascii ['b', 'e', 'q']) rs1 rs2 offset) s

/-- `bne rs1, rs2, offset` (rule R302). -/
def execBne (rs1 rs2 : RegId) (offset : Int) (s : State) : Result :=
  encodeCall (checkImm13 offset) (wordB (ascii ['b', 'n', 'e']) rs1 rs2 offset) s

/-- `blt rs1, rs2, offset` (rule R303). -/
def execBlt (rs1 rs2 : RegId) (offset : Int) (s : State) : Result :=
  encodeCall (checkImm13 offset) (wordB (ascii ['b', 'l', 't']) rs1 rs2 offset) s

/-- `bge rs1, rs2, offset` (rule R304). -/
def execBge (rs1 rs2 : RegId) (offset : Int) (s : State) : Result :=
  encodeCall (checkImm13 offset) (wordB (ascii ['b', 'g', 'e']) rs1 rs2 offset) s

/-- `bltu rs1, rs2, offset` (rule R305). -/
def execBltu (rs1 rs2 : RegId) (offset : Int) (s : State) : Result :=
  encodeCall (checkImm13 offset) (wordB (ascii ['b', 'l', 't', 'u']) rs1 rs2 offset) s

/-- `bgeu rs1, rs2, offset` (rule R306). -/
def execBgeu (rs1 rs2 : RegId) (offset : Int) (s : State) : Result :=
  encodeCall (checkImm13 offset) (wordB (ascii ['b', 'g', 'e', 'u']) rs1 rs2 offset) s

end Sys2Proof.Machine
end

