-- ==== Sys2Proof/Machine/Fixed.lean ====
section
/-! DEFINITION. Fixed family (rules R359 to R363): the constant word of the mnemonic. -/

namespace Sys2Proof.Machine

/-- `ecall` (rule R360). -/
def execEcall (s : State) : Result :=
  encodeCall none (wordFixed (ascii ['e', 'c', 'a', 'l', 'l'])) s

/-- `ebreak` (rule R361). -/
def execEbreak (s : State) : Result :=
  encodeCall none (wordFixed (ascii ['e', 'b', 'r', 'e', 'a', 'k'])) s

/-- `fence.tso` (rule R362). -/
def execFenceTso (s : State) : Result :=
  encodeCall none (wordFixed (ascii ['f', 'e', 'n', 'c', 'e', '.', 't', 's', 'o'])) s

/-- `pause` (rule R363). -/
def execPause (s : State) : Result :=
  encodeCall none (wordFixed (ascii ['p', 'a', 'u', 's', 'e'])) s

end Sys2Proof.Machine
end

