-- ==== Sys2Proof/Machine/IArith.lean ====
section
/-! DEFINITION. I-arith family (rules R220 to R226): the 12-bit check, then the word with `tc_12(imm)`. -/

namespace Sys2Proof.Machine

/-- `addi rd, rs1, imm` (rule R221). -/
def execAddi (rd rs1 : RegId) (imm : Int) (s : State) : Result :=
  encodeCall (checkImm12 imm) (wordIArith (ascii ['a', 'd', 'd', 'i']) rd rs1 imm) s

/-- `slti rd, rs1, imm` (rule R222). -/
def execSlti (rd rs1 : RegId) (imm : Int) (s : State) : Result :=
  encodeCall (checkImm12 imm) (wordIArith (ascii ['s', 'l', 't', 'i']) rd rs1 imm) s

/-- `sltiu rd, rs1, imm` (rule R223). -/
def execSltiu (rd rs1 : RegId) (imm : Int) (s : State) : Result :=
  encodeCall (checkImm12 imm) (wordIArith (ascii ['s', 'l', 't', 'i', 'u']) rd rs1 imm) s

/-- `xori rd, rs1, imm` (rule R224). -/
def execXori (rd rs1 : RegId) (imm : Int) (s : State) : Result :=
  encodeCall (checkImm12 imm) (wordIArith (ascii ['x', 'o', 'r', 'i']) rd rs1 imm) s

/-- `ori rd, rs1, imm` (rule R225). -/
def execOri (rd rs1 : RegId) (imm : Int) (s : State) : Result :=
  encodeCall (checkImm12 imm) (wordIArith (ascii ['o', 'r', 'i']) rd rs1 imm) s

/-- `andi rd, rs1, imm` (rule R226). -/
def execAndi (rd rs1 : RegId) (imm : Int) (s : State) : Result :=
  encodeCall (checkImm12 imm) (wordIArith (ascii ['a', 'n', 'd', 'i']) rd rs1 imm) s

end Sys2Proof.Machine
end

