-- ==== Sys2Proof/Machine/ILoadJalr.lean ====
section
/-! DEFINITION. I-load/jalr family (rules R240 to R246): the 12-bit check, then the word with `offset & 0xFFF`; no alignment rule (R54). -/

namespace Sys2Proof.Machine

/-- `lb rd, offset(rs1)` (rule R241). -/
def execLb (rd rs1 : RegId) (offset : Int) (s : State) : Result :=
  encodeCall (checkImm12 offset) (wordILoadJalr (ascii ['l', 'b']) rd rs1 offset) s

/-- `lh rd, offset(rs1)` (rule R242). -/
def execLh (rd rs1 : RegId) (offset : Int) (s : State) : Result :=
  encodeCall (checkImm12 offset) (wordILoadJalr (ascii ['l', 'h']) rd rs1 offset) s

/-- `lw rd, offset(rs1)` (rule R243). -/
def execLw (rd rs1 : RegId) (offset : Int) (s : State) : Result :=
  encodeCall (checkImm12 offset) (wordILoadJalr (ascii ['l', 'w']) rd rs1 offset) s

/-- `lbu rd, offset(rs1)` (rule R244). -/
def execLbu (rd rs1 : RegId) (offset : Int) (s : State) : Result :=
  encodeCall (checkImm12 offset) (wordILoadJalr (ascii ['l', 'b', 'u']) rd rs1 offset) s

/-- `lhu rd, offset(rs1)` (rule R245). -/
def execLhu (rd rs1 : RegId) (offset : Int) (s : State) : Result :=
  encodeCall (checkImm12 offset) (wordILoadJalr (ascii ['l', 'h', 'u']) rd rs1 offset) s

/-- `jalr rd, offset(rs1)` (rule R246). -/
def execJalr (rd rs1 : RegId) (offset : Int) (s : State) : Result :=
  encodeCall (checkImm12 offset) (wordILoadJalr (ascii ['j', 'a', 'l', 'r']) rd rs1 offset) s

end Sys2Proof.Machine
end

