-- ==== Sys2Proof/Machine/IShift.lean ====
section
/-! DEFINITION. I-shift family (rules R260 to R263): the shift-amount check, then the word. -/

namespace Sys2Proof.Machine

/-- `slli rd, rs1, shamt` (rule R261). -/
def execSlli (rd rs1 : RegId) (shamt : Int) (s : State) : Result :=
  encodeCall (checkShamt shamt) (wordIShift (ascii ['s', 'l', 'l', 'i']) rd rs1 shamt) s

/-- `srli rd, rs1, shamt` (rule R262). -/
def execSrli (rd rs1 : RegId) (shamt : Int) (s : State) : Result :=
  encodeCall (checkShamt shamt) (wordIShift (ascii ['s', 'r', 'l', 'i']) rd rs1 shamt) s

/-- `srai rd, rs1, shamt` (rule R263). -/
def execSrai (rd rs1 : RegId) (shamt : Int) (s : State) : Result :=
  encodeCall (checkShamt shamt) (wordIShift (ascii ['s', 'r', 'a', 'i']) rd rs1 shamt) s

end Sys2Proof.Machine
end

