-- ==== Sys2Proof/Machine/JType.lean ====
section
/-! DEFINITION. J family (rules R340, R341): range, then alignment, then the word with the scattered `tc_21(offset)`. -/

namespace Sys2Proof.Machine

/-- `jal rd, offset` (rule R341). -/
def execJal (rd : RegId) (offset : Int) (s : State) : Result :=
  encodeCall (checkImm21 offset) (wordJ (ascii ['j', 'a', 'l']) rd offset) s

end Sys2Proof.Machine
end

