-- ==== Sys2Proof/Machine/RType.lean ====
section
/-! DEFINITION. R family (rules R200 to R210): no immediate, so no check; every combination of register ids is accepted. -/

namespace Sys2Proof.Machine

/-- `add rd, rs1, rs2` (rule R201). -/
def execAdd (rd rs1 rs2 : RegId) (s : State) : Result :=
  encodeCall none (wordR (ascii ['a', 'd', 'd']) rd rs1 rs2) s

/-- `sub rd, rs1, rs2` (rule R202). -/
def execSub (rd rs1 rs2 : RegId) (s : State) : Result :=
  encodeCall none (wordR (ascii ['s', 'u', 'b']) rd rs1 rs2) s

/-- `sll rd, rs1, rs2` (rule R203). -/
def execSll (rd rs1 rs2 : RegId) (s : State) : Result :=
  encodeCall none (wordR (ascii ['s', 'l', 'l']) rd rs1 rs2) s

/-- `slt rd, rs1, rs2` (rule R204). -/
def execSlt (rd rs1 rs2 : RegId) (s : State) : Result :=
  encodeCall none (wordR (ascii ['s', 'l', 't']) rd rs1 rs2) s

/-- `sltu rd, rs1, rs2` (rule R205). -/
def execSltu (rd rs1 rs2 : RegId) (s : State) : Result :=
  encodeCall none (wordR (ascii ['s', 'l', 't', 'u']) rd rs1 rs2) s

/-- `xor rd, rs1, rs2` (rule R206). -/
def execXor (rd rs1 rs2 : RegId) (s : State) : Result :=
  encodeCall none (wordR (ascii ['x', 'o', 'r']) rd rs1 rs2) s

/-- `srl rd, rs1, rs2` (rule R207). -/
def execSrl (rd rs1 rs2 : RegId) (s : State) : Result :=
  encodeCall none (wordR (ascii ['s', 'r', 'l']) rd rs1 rs2) s

/-- `sra rd, rs1, rs2` (rule R208). -/
def execSra (rd rs1 rs2 : RegId) (s : State) : Result :=
  encodeCall none (wordR (ascii ['s', 'r', 'a']) rd rs1 rs2) s

/-- `or rd, rs1, rs2` (rule R209). -/
def execOr (rd rs1 rs2 : RegId) (s : State) : Result :=
  encodeCall none (wordR (ascii ['o', 'r']) rd rs1 rs2) s

/-- `and rd, rs1, rs2` (rule R210). -/
def execAnd (rd rs1 rs2 : RegId) (s : State) : Result :=
  encodeCall none (wordR (ascii ['a', 'n', 'd']) rd rs1 rs2) s

end Sys2Proof.Machine
end

