-- ==== Sys2Proof/Machine/SType.lean ====
section
/-! DEFINITION. S family (rules R280 to R283): the 12-bit check, then the word with the split `offset & 0xFFF`. -/

namespace Sys2Proof.Machine

/-- `sb rs2, offset(rs1)` (rule R281). -/
def execSb (rs2 rs1 : RegId) (offset : Int) (s : State) : Result :=
  encodeCall (checkImm12 offset) (wordS (ascii ['s', 'b']) rs2 rs1 offset) s

/-- `sh rs2, offset(rs1)` (rule R282). -/
def execSh (rs2 rs1 : RegId) (offset : Int) (s : State) : Result :=
  encodeCall (checkImm12 offset) (wordS (ascii ['s', 'h']) rs2 rs1 offset) s

/-- `sw rs2, offset(rs1)` (rule R283). -/
def execSw (rs2 rs1 : RegId) (offset : Int) (s : State) : Result :=
  encodeCall (checkImm12 offset) (wordS (ascii ['s', 'w']) rs2 rs1 offset) s

end Sys2Proof.Machine
end

