-- ==== Sys2Proof/Machine/UType.lean ====
section
/-! DEFINITION. U family (rules R320 to R322): the 20-bit check, then the word with the unshifted `tc_20(imm)`. -/

namespace Sys2Proof.Machine

/-- `lui rd, imm` (rule R321). -/
def execLui (rd : RegId) (imm : Int) (s : State) : Result :=
  encodeCall (checkImm20 imm) (wordU (ascii ['l', 'u', 'i']) rd imm) s

/-- `auipc rd, imm` (rule R322). -/
def execAuipc (rd : RegId) (imm : Int) (s : State) : Result :=
  encodeCall (checkImm20 imm) (wordU (ascii ['a', 'u', 'i', 'p', 'c']) rd imm) s

end Sys2Proof.Machine
end

