-- ==== Sys2Proof/Machine/Step.lean ====
section
/-! DEFINITION. One step is one encode call (rules R70, R453); how an instruction comes to the input port; sequences of calls. -/

namespace Sys2Proof.Machine

/-- One encode call on the input port: fetch and parse the text, then run the instruction, or raise the error (rules R70, R402). -/
def step (s : State) : Host.Outcome State Fault Refusal :=
  match fetch s with
  | .refused r => .refused r
  | .error k => raise k s
  | .instr i => exec i s

/-- The state with one instruction of the opcode table at the input port, as its canonical line of text, and the tables loaded (log entry
9). A word of no row has no text: the port is then left empty. -/
def State.withFetchWord (s : State) (nbits w : Nat) : State :=
  match decodeTableWord nbits w with
  | none => { s with tables := Tables.contents }.withInput []
  | some i => { s with tables := Tables.contents }.withInput (print i)

/-- A program of input lines, one encode call each, in order (95_test_vectors.md section 3): what a consumer samples after each call.
A refused call ends the sequence. -/
def State.runCalls (s : State) : List Text → List (BitVec 3 × Option Word)
  | [] => []
  | T :: rest =>
    match step (s.withInput T) with
    | .next s' => s'.sample :: s'.runCalls rest
    | .fault _ => []
    | .refused _ => []

end Sys2Proof.Machine
end

