-- ==== Sys2Proof/Machine/Render.lean ====
section
/-! DEFINITION. The two renderings of a word, test aids of the spec (rules R115, R116, decision D16). -/

namespace Sys2Proof

/-- The characters of a bit vector, most significant bit first: `1` for a set bit, `0` for a clear one (rule R115). -/
def renderBits {n : Nat} (v : BitVec n) : Text :=
  (List.range n).map fun i => if v.getMsbD i then 0x31#8 else 0x30#8

/-- `render(w)`: 32 characters, bit 31 first (rule R115). -/
def render (w : Word) : Text := renderBits w

/-- Fields joined by one space each (rule R116). -/
def joinFields : List Text → Text
  | [] => []
  | f :: fs => f ++ (fs.map fun g => 0x20#8 :: g).flatten

/-- The fields of a word in a family's format, most significant first, each as characters (rules R91 to R98). -/
def fieldsOf (w : Word) : Family → List Text
  | .r => [renderBits (funct7Of w), renderBits (rs2Of w), renderBits (rs1Of w), renderBits (funct3Of w), renderBits (rdOf w),
      renderBits (opcodeOf w)]
  | .iShift => [renderBits (funct7Of w), renderBits (rs2Of w), renderBits (rs1Of w), renderBits (funct3Of w), renderBits (rdOf w),
      renderBits (opcodeOf w)]
  | .iArith => [renderBits (w.extractLsb' 20 12), renderBits (rs1Of w), renderBits (funct3Of w), renderBits (rdOf w),
      renderBits (opcodeOf w)]
  | .iLoadJalr => [renderBits (w.extractLsb' 20 12), renderBits (rs1Of w), renderBits (funct3Of w), renderBits (rdOf w),
      renderBits (opcodeOf w)]
  | .s => [renderBits (w.extractLsb' 25 7), renderBits (rs2Of w), renderBits (rs1Of w), renderBits (funct3Of w),
      renderBits (w.extractLsb' 7 5), renderBits (opcodeOf w)]
  | .b => [renderBits (w.extractLsb' 31 1), renderBits (w.extractLsb' 25 6), renderBits (rs2Of w), renderBits (rs1Of w),
      renderBits (funct3Of w), renderBits (w.extractLsb' 8 4), renderBits (w.extractLsb' 7 1), renderBits (opcodeOf w)]
  | .u => [renderBits (w.extractLsb' 12 20), renderBits (rdOf w), renderBits (opcodeOf w)]
  | .j => [renderBits (w.extractLsb' 31 1), renderBits (w.extractLsb' 21 10), renderBits (w.extractLsb' 20 1),
      renderBits (w.extractLsb' 12 8), renderBits (rdOf w), renderBits (opcodeOf w)]
  | .fixed => [render w]

/-- `render_fields(w, fam)`: the fields with one space between them (rule R116); the Fixed family is undelimited. -/
def renderFields (w : Word) (fam : Family) : Text := joinFields (fieldsOf w fam)

end Sys2Proof
end

