-- ==== Sys2Proof/Safety.lean ====
section
/-! DEFINITION. The terms the claims use: when the block is inside its spec, what a call answers, and the invariant of the outputs.
A safe run is one whose every step answers a next state; `State.Ready` is exactly when a step does. -/

namespace Sys2Proof.Machine

/-- The tables hold their constant contents (rules R21, R35, R451). -/
def State.TablesLoaded (s : State) : Prop := s.tables = Tables.contents

/-- `in_len` lies in `0..N_TEXT` (rule R22). -/
def State.InputFits (s : State) : Prop := s.inLen ≤ s.inText.length

/-- The block is inside its spec: tables loaded, input within the port. -/
structure State.Ready (s : State) : Prop where
  loaded : s.TablesLoaded
  fits : s.InputFits

/-- The state after a call that answers a word or an error kind: both output ports driven, nothing else changed (rules R22, R34, R402). -/
def State.answer (s : State) : Except ErrorKind Word → State
  | .ok w => { s with outWord := w, outErr := 0#3 }
  | .error k => { s with outWord := 0x00000000#32, outErr := k.code }

/-- The mnemonic of the input line: the first token of the folded and trimmed text (rules R70 to R74). -/
def State.lineMnemonic (s : State) : Text := (splitMnemonic (trim (foldText s.input))).1

/-- The operand tokens of the input line, or the separator error (rules R70, R75). -/
def State.lineOperands (s : State) : Except ErrorKind (List Text) := splitOperands (splitMnemonic (trim (foldText s.input))).2

/-- The outputs are those of some call: a word the encoder yields with code 0, or a zero word with an error kind's code (rules R400,
R402, R114). -/
def State.OutputsLegal (s : State) : Prop :=
  (s.outErr = 0#3 ∧ ∃ i : Instr, i.WellFormed ∧ s.outWord = encode i) ∨ (s.outWord = 0#32 ∧ ∃ k : ErrorKind, s.outErr = k.code)

/-- The invariant of the block: inside its spec, with legal outputs. -/
structure State.Inv (s : State) : Prop where
  ready : s.Ready
  outputs : s.OutputsLegal

/-- The outputs are the function of the input that the ports hold now (rules R23, R35). -/
def State.Settled (s : State) : Prop := s.answer (encodeText s.tables s.input) = s

end Sys2Proof.Machine
end

