-- ==== Sys2Proof/Certificates/Slice0/Obligations.lean ====
section
/-! DEFINITION. The statements for the provers. Each docstring names the rules of spec/ the statement formalises. Constants of the rules are
written out here again, from the rules themselves, and not taken from the model's tables. -/

namespace Sys2Proof.Rules

open Sys2Proof Sys2Proof.Machine

/-- Rules R201 to R210: mnemonic, funct7, funct3. -/
def rRows : List (Text × BitVec 7 × BitVec 3) :=
  [(ascii "add".toList, 0b0000000#7, 0b000#3),
   (ascii "sub".toList, 0b0100000#7, 0b000#3),
   (ascii "sll".toList, 0b0000000#7, 0b001#3),
   (ascii "slt".toList, 0b0000000#7, 0b010#3),
   (ascii "sltu".toList, 0b0000000#7, 0b011#3),
   (ascii "xor".toList, 0b0000000#7, 0b100#3),
   (ascii "srl".toList, 0b0000000#7, 0b101#3),
   (ascii "sra".toList, 0b0100000#7, 0b101#3),
   (ascii "or".toList, 0b0000000#7, 0b110#3),
   (ascii "and".toList, 0b0000000#7, 0b111#3)]

/-- Rules R221 to R226: mnemonic, funct3. -/
def iArithRows : List (Text × BitVec 3) :=
  [(ascii "addi".toList, 0b000#3),
   (ascii "slti".toList, 0b010#3),
   (ascii "sltiu".toList, 0b011#3),
   (ascii "xori".toList, 0b100#3),
   (ascii "ori".toList, 0b110#3),
   (ascii "andi".toList, 0b111#3)]

/-- Rules R241 to R246: mnemonic, funct3, opcode. -/
def iLoadJalrRows : List (Text × BitVec 3 × BitVec 7) :=
  [(ascii "lb".toList, 0b000#3, 0b0000011#7),
   (ascii "lh".toList, 0b001#3, 0b0000011#7),
   (ascii "lw".toList, 0b010#3, 0b0000011#7),
   (ascii "lbu".toList, 0b100#3, 0b0000011#7),
   (ascii "lhu".toList, 0b101#3, 0b0000011#7),
   (ascii "jalr".toList, 0b000#3, 0b1100111#7)]

/-- Rules R261 to R263: mnemonic, funct7, funct3. -/
def iShiftRows : List (Text × BitVec 7 × BitVec 3) :=
  [(ascii "slli".toList, 0b0000000#7, 0b001#3),
   (ascii "srli".toList, 0b0000000#7, 0b101#3),
   (ascii "srai".toList, 0b0100000#7, 0b101#3)]

/-- Rules R281 to R283: mnemonic, funct3. -/
def sRows : List (Text × BitVec 3) :=
  [(ascii "sb".toList, 0b000#3),
   (ascii "sh".toList, 0b001#3),
   (ascii "sw".toList, 0b010#3)]

/-- Rules R301 to R306: mnemonic, funct3. -/
def bRows : List (Text × BitVec 3) :=
  [(ascii "beq".toList, 0b000#3),
   (ascii "bne".toList, 0b001#3),
   (ascii "blt".toList, 0b100#3),
   (ascii "bge".toList, 0b101#3),
   (ascii "bltu".toList, 0b110#3),
   (ascii "bgeu".toList, 0b111#3)]

/-- Rules R321, R322: mnemonic, opcode. -/
def uRows : List (Text × BitVec 7) :=
  [(ascii "lui".toList, 0b0110111#7),
   (ascii "auipc".toList, 0b0010111#7)]

/-- Rule R341: mnemonic, opcode. -/
def jRows : List (Text × BitVec 7) :=
  [(ascii "jal".toList, 0b1101111#7)]

/-- Rules R360 to R363: mnemonic, word. -/
def fixedRows : List (Text × Word) :=
  [(ascii "ecall".toList, 0x00000073#32),
   (ascii "ebreak".toList, 0x00100073#32),
   (ascii "fence.tso".toList, 0x8330000F#32),
   (ascii "pause".toList, 0x0100000F#32)]

/-- The 41 mnemonics of rule R77. -/
def mnemonics : List Text :=
  [ascii "add".toList,
   ascii "sub".toList,
   ascii "sll".toList,
   ascii "slt".toList,
   ascii "sltu".toList,
   ascii "xor".toList,
   ascii "srl".toList,
   ascii "sra".toList,
   ascii "or".toList,
   ascii "and".toList,
   ascii "addi".toList,
   ascii "slti".toList,
   ascii "sltiu".toList,
   ascii "xori".toList,
   ascii "ori".toList,
   ascii "andi".toList,
   ascii "lb".toList,
   ascii "lh".toList,
   ascii "lw".toList,
   ascii "lbu".toList,
   ascii "lhu".toList,
   ascii "jalr".toList,
   ascii "slli".toList,
   ascii "srli".toList,
   ascii "srai".toList,
   ascii "sb".toList,
   ascii "sh".toList,
   ascii "sw".toList,
   ascii "beq".toList,
   ascii "bne".toList,
   ascii "blt".toList,
   ascii "bge".toList,
   ascii "bltu".toList,
   ascii "bgeu".toList,
   ascii "lui".toList,
   ascii "auipc".toList,
   ascii "jal".toList,
   ascii "ecall".toList,
   ascii "ebreak".toList,
   ascii "fence.tso".toList,
   ascii "pause".toList]

/-- The ABI names of rule R24 in the order of their ids, 0 to 31. -/
def abiNames : List Text :=
  [ascii "zero".toList,
   ascii "ra".toList,
   ascii "sp".toList,
   ascii "gp".toList,
   ascii "tp".toList,
   ascii "t0".toList,
   ascii "t1".toList,
   ascii "t2".toList,
   ascii "s0".toList,
   ascii "s1".toList,
   ascii "a0".toList,
   ascii "a1".toList,
   ascii "a2".toList,
   ascii "a3".toList,
   ascii "a4".toList,
   ascii "a5".toList,
   ascii "a6".toList,
   ascii "a7".toList,
   ascii "s2".toList,
   ascii "s3".toList,
   ascii "s4".toList,
   ascii "s5".toList,
   ascii "s6".toList,
   ascii "s7".toList,
   ascii "s8".toList,
   ascii "s9".toList,
   ascii "s10".toList,
   ascii "s11".toList,
   ascii "t3".toList,
   ascii "t4".toList,
   ascii "t5".toList,
   ascii "t6".toList]

/-- Every listed line, given to any block whose tables are loaded, gets the listed answer, and only the output ports change. -/
def ExamplesHold (examples : List (Text × Except ErrorKind Word)) : Prop :=
  ∀ s : State, s.TablesLoaded → ∀ T r, (T, r) ∈ examples → step (s.withInput T) = .next ((s.withInput T).answer r)

/-- The error kinds that can still arise once the mnemonic is known (rule R401). -/
def kindsOf : Family → List ErrorKind
  | .r => [.malformedOperands]
  | .iArith => [.malformedOperands, .immediateOutOfRange]
  | .iLoadJalr => [.malformedOperands, .immediateOutOfRange]
  | .iShift => [.malformedOperands, .immediateOutOfRange]
  | .s => [.malformedOperands, .immediateOutOfRange]
  | .u => [.malformedOperands, .immediateOutOfRange]
  | .b => [.malformedOperands, .immediateOutOfRange, .immediateMisaligned]
  | .j => [.malformedOperands, .immediateOutOfRange, .immediateMisaligned]
  | .fixed => [.malformedOperands]

/-- The positions of an operand list that hold a register token (rule R78, the `reg` entries of each shape). -/
def regPositions : Family → List Nat
  | .r => [0, 1, 2]
  | .iArith => [0, 1]
  | .iLoadJalr => [0]
  | .iShift => [0, 1]
  | .s => [0]
  | .b => [0, 1]
  | .u => [0]
  | .j => [0]
  | .fixed => []

/-- The bits `hi` down to `lo` of a word as the characters `0` and `1`, the highest first (rules R115, R116). -/
def spellBits (w : Word) (hi lo : Nat) : Text :=
  (List.range (hi - lo + 1)).map fun i => if w.getLsbD (hi - i) then 0x31#8 else 0x30#8

/-- The fields of each family as bit ranges of the word, highest bit and lowest bit, in the order of rules R91 to R97; the Fixed family is
one range (rule R116). -/
def fieldSpans : Family → List (Nat × Nat)
  | .r => [(31, 25), (24, 20), (19, 15), (14, 12), (11, 7), (6, 0)]
  | .iArith => [(31, 20), (19, 15), (14, 12), (11, 7), (6, 0)]
  | .iLoadJalr => [(31, 20), (19, 15), (14, 12), (11, 7), (6, 0)]
  | .iShift => [(31, 25), (24, 20), (19, 15), (14, 12), (11, 7), (6, 0)]
  | .s => [(31, 25), (24, 20), (19, 15), (14, 12), (11, 7), (6, 0)]
  | .b => [(31, 31), (30, 25), (24, 20), (19, 15), (14, 12), (11, 8), (7, 7), (6, 0)]
  | .u => [(31, 12), (11, 7), (6, 0)]
  | .j => [(31, 31), (30, 21), (20, 20), (19, 12), (11, 7), (6, 0)]
  | .fixed => [(31, 0)]

/-- What a consumer samples after a call with this result (rules R22, R400, R402). -/
def sampleOf : Except ErrorKind Word → BitVec 3 × Option Word
  | .ok w => (0#3, some w)
  | .error k => (k.code, none)

/-- A separator of rule R75: whitespace and commas only, at least one byte, at most one comma. -/
def IsSeparator (sep : Text) : Prop :=
  sep ≠ [] ∧ (∀ b ∈ sep, isSpace b = true ∨ b = 0x2C#8) ∧ sep.count 0x2C#8 ≤ 1

/-- A token of rule R74: one or more bytes, none of them whitespace or a comma. -/
def IsToken (token : Text) : Prop :=
  token ≠ [] ∧ ∀ b ∈ token, isSpace b = false ∧ b ≠ 0x2C#8

/-- The decimal number a run of digit bytes spells (rule R84). -/
def decimalValue (digits : Text) : Nat := digits.foldl (fun n b => n * 10 + (b.toNat - 0x30)) 0

/-- A non-empty run of the bytes `0` to `9` (rule R84). -/
def IsDigits (digits : Text) : Prop := digits ≠ [] ∧ ∀ b ∈ digits, 0x30 ≤ b.toNat ∧ b.toNat ≤ 0x39

end Sys2Proof.Rules

open Sys2Proof Sys2Proof.Machine Sys2Proof.Rules

/-- Sanity: words of 95_test_vectors.md (VR1, VR2, VIA2, VIL2, VIS3, VS3, VB2, VU1, VJ1, VF4) decode as rules R91 to R113 say. -/
def Obligations.SpecWordsDecode : Prop :=
  decodeWord 0b0000000_00011_00010_000_00001_0110011#32 = .ok (.add 1#5 2#5 3#5) ∧
  decodeWord 0b0100000_01100_01011_000_01010_0110011#32 = .ok (.sub 10#5 11#5 12#5) ∧
  decodeWord 0b111111111111_00110_010_00101_0010011#32 = .ok (.slti 5#5 6#5 (-1)) ∧
  decodeWord 0b111111111110_01000_001_01011_0000011#32 = .ok (.lh 11#5 8#5 (-2)) ∧
  decodeWord 0b0100000_00001_01110_101_01101_0010011#32 = .ok (.srai 13#5 14#5 1) ∧
  decodeWord 0b0000000_00001_00010_010_01010_0100011#32 = .ok (.sw 1#5 2#5 10) ∧
  decodeWord 0b1_111111_00000_01010_001_1110_1_1100011#32 = .ok (.bne 10#5 0#5 (-4)) ∧
  decodeWord 0b00000000000000000001_00001_0110111#32 = .ok (.lui 1#5 1) ∧
  decodeWord 0b0_1111101000_0_00000000_00001_1101111#32 = .ok (.jal 1#5 2000) ∧
  decodeWord 0b00000001000000000000000000001111#32 = .ok .pause

/-- At reset the tables hold their contents and the outputs are a function of the inputs (rule R35); the empty input is the model's choice (log entry 3). -/
def Obligations.ResetMeetsInvariantAndIsSettled : Prop :=
  State.reset.Inv ∧ State.reset.Settled

/-- The step order of rule R70. -/
def Obligations.StepRunsTheParsedInstruction : Prop :=
  ∀ s : State, s.Ready →
    (∀ i, parse Tables.contents s.input = .ok i → step s = exec i s) ∧
    (∀ k, parse Tables.contents s.input = .error k → step s = .next (s.answer (.error k)))

/-- The pseudocode of rules R201 to R210, with the frame: only the output ports change. -/
def Obligations.RInstructionsDriveTheirWord : Prop :=
  ∀ (s : State) (rd rs1 rs2 : RegId), s.TablesLoaded →
      exec (.add rd rs1 rs2) s = .next (s.answer (.ok (fmtR 0b0000000#7 rs2 rs1 0b000#3 rd 0b0110011#7))) ∧
      exec (.sub rd rs1 rs2) s = .next (s.answer (.ok (fmtR 0b0100000#7 rs2 rs1 0b000#3 rd 0b0110011#7))) ∧
      exec (.sll rd rs1 rs2) s = .next (s.answer (.ok (fmtR 0b0000000#7 rs2 rs1 0b001#3 rd 0b0110011#7))) ∧
      exec (.slt rd rs1 rs2) s = .next (s.answer (.ok (fmtR 0b0000000#7 rs2 rs1 0b010#3 rd 0b0110011#7))) ∧
      exec (.sltu rd rs1 rs2) s = .next (s.answer (.ok (fmtR 0b0000000#7 rs2 rs1 0b011#3 rd 0b0110011#7))) ∧
      exec (.xor rd rs1 rs2) s = .next (s.answer (.ok (fmtR 0b0000000#7 rs2 rs1 0b100#3 rd 0b0110011#7))) ∧
      exec (.srl rd rs1 rs2) s = .next (s.answer (.ok (fmtR 0b0000000#7 rs2 rs1 0b101#3 rd 0b0110011#7))) ∧
      exec (.sra rd rs1 rs2) s = .next (s.answer (.ok (fmtR 0b0100000#7 rs2 rs1 0b101#3 rd 0b0110011#7))) ∧
      exec (.or rd rs1 rs2) s = .next (s.answer (.ok (fmtR 0b0000000#7 rs2 rs1 0b110#3 rd 0b0110011#7))) ∧
      exec (.and rd rs1 rs2) s = .next (s.answer (.ok (fmtR 0b0000000#7 rs2 rs1 0b111#3 rd 0b0110011#7)))

/-- The pseudocode of rules R221 to R226, with the frame: only the output ports change. -/
def Obligations.IArithInstructionsDriveTheirWord : Prop :=
  ∀ (s : State) (rd rs1 : RegId) (imm : Int), s.TablesLoaded → -2048 ≤ imm → imm ≤ 2047 →
      exec (.addi rd rs1 imm) s = .next (s.answer (.ok (fmtI (tc 12 imm) rs1 0b000#3 rd 0b0010011#7))) ∧
      exec (.slti rd rs1 imm) s = .next (s.answer (.ok (fmtI (tc 12 imm) rs1 0b010#3 rd 0b0010011#7))) ∧
      exec (.sltiu rd rs1 imm) s = .next (s.answer (.ok (fmtI (tc 12 imm) rs1 0b011#3 rd 0b0010011#7))) ∧
      exec (.xori rd rs1 imm) s = .next (s.answer (.ok (fmtI (tc 12 imm) rs1 0b100#3 rd 0b0010011#7))) ∧
      exec (.ori rd rs1 imm) s = .next (s.answer (.ok (fmtI (tc 12 imm) rs1 0b110#3 rd 0b0010011#7))) ∧
      exec (.andi rd rs1 imm) s = .next (s.answer (.ok (fmtI (tc 12 imm) rs1 0b111#3 rd 0b0010011#7)))

/-- The pseudocode of rules R241 to R246, with the frame: only the output ports change. -/
def Obligations.LoadsAndJalrDriveTheirWord : Prop :=
  ∀ (s : State) (rd rs1 : RegId) (offset : Int), s.TablesLoaded → -2048 ≤ offset → offset ≤ 2047 →
      exec (.lb rd rs1 offset) s = .next (s.answer (.ok (fmtI (maskFFF offset) rs1 0b000#3 rd 0b0000011#7))) ∧
      exec (.lh rd rs1 offset) s = .next (s.answer (.ok (fmtI (maskFFF offset) rs1 0b001#3 rd 0b0000011#7))) ∧
      exec (.lw rd rs1 offset) s = .next (s.answer (.ok (fmtI (maskFFF offset) rs1 0b010#3 rd 0b0000011#7))) ∧
      exec (.lbu rd rs1 offset) s = .next (s.answer (.ok (fmtI (maskFFF offset) rs1 0b100#3 rd 0b0000011#7))) ∧
      exec (.lhu rd rs1 offset) s = .next (s.answer (.ok (fmtI (maskFFF offset) rs1 0b101#3 rd 0b0000011#7))) ∧
      exec (.jalr rd rs1 offset) s = .next (s.answer (.ok (fmtI (maskFFF offset) rs1 0b000#3 rd 0b1100111#7)))

/-- The pseudocode of rules R261 to R263, with the frame: only the output ports change. -/
def Obligations.IShiftInstructionsDriveTheirWord : Prop :=
  ∀ (s : State) (rd rs1 : RegId) (shamt : Int), s.TablesLoaded → 0 ≤ shamt → shamt ≤ 31 →
      exec (.slli rd rs1 shamt) s = .next (s.answer (.ok (fmtIShift 0b0000000#7 (tc 5 shamt) rs1 0b001#3 rd 0b0010011#7))) ∧
      exec (.srli rd rs1 shamt) s = .next (s.answer (.ok (fmtIShift 0b0000000#7 (tc 5 shamt) rs1 0b101#3 rd 0b0010011#7))) ∧
      exec (.srai rd rs1 shamt) s = .next (s.answer (.ok (fmtIShift 0b0100000#7 (tc 5 shamt) rs1 0b101#3 rd 0b0010011#7)))

/-- The pseudocode of rules R281 to R283, with the frame: only the output ports change. -/
def Obligations.StoresDriveTheirWord : Prop :=
  ∀ (s : State) (rs2 rs1 : RegId) (offset : Int), s.TablesLoaded → -2048 ≤ offset → offset ≤ 2047 →
      exec (.sb rs2 rs1 offset) s = .next (s.answer (.ok (fmtS (maskFFF offset) rs2 rs1 0b000#3 0b0100011#7))) ∧
      exec (.sh rs2 rs1 offset) s = .next (s.answer (.ok (fmtS (maskFFF offset) rs2 rs1 0b001#3 0b0100011#7))) ∧
      exec (.sw rs2 rs1 offset) s = .next (s.answer (.ok (fmtS (maskFFF offset) rs2 rs1 0b010#3 0b0100011#7)))

/-- The pseudocode of rules R301 to R306, with the frame: only the output ports change. -/
def Obligations.BranchesDriveTheirWord : Prop :=
  ∀ (s : State) (rs1 rs2 : RegId) (offset : Int), s.TablesLoaded → -4096 ≤ offset → offset ≤ 4095 → offset % 2 = 0 →
      exec (.beq rs1 rs2 offset) s = .next (s.answer (.ok (fmtB (tc 13 offset) rs2 rs1 0b000#3 0b1100011#7))) ∧
      exec (.bne rs1 rs2 offset) s = .next (s.answer (.ok (fmtB (tc 13 offset) rs2 rs1 0b001#3 0b1100011#7))) ∧
      exec (.blt rs1 rs2 offset) s = .next (s.answer (.ok (fmtB (tc 13 offset) rs2 rs1 0b100#3 0b1100011#7))) ∧
      exec (.bge rs1 rs2 offset) s = .next (s.answer (.ok (fmtB (tc 13 offset) rs2 rs1 0b101#3 0b1100011#7))) ∧
      exec (.bltu rs1 rs2 offset) s = .next (s.answer (.ok (fmtB (tc 13 offset) rs2 rs1 0b110#3 0b1100011#7))) ∧
      exec (.bgeu rs1 rs2 offset) s = .next (s.answer (.ok (fmtB (tc 13 offset) rs2 rs1 0b111#3 0b1100011#7)))

/-- The pseudocode of rules R321 to R322, with the frame: only the output ports change. -/
def Obligations.UpperImmediatesDriveTheirWord : Prop :=
  ∀ (s : State) (rd : RegId) (imm : Int), s.TablesLoaded → -524288 ≤ imm → imm ≤ 1048575 →
      exec (.lui rd imm) s = .next (s.answer (.ok (fmtU (tc 20 imm) rd 0b0110111#7))) ∧
      exec (.auipc rd imm) s = .next (s.answer (.ok (fmtU (tc 20 imm) rd 0b0010111#7)))

/-- The pseudocode of rule R341, with the frame: only the output ports change. -/
def Obligations.JalDrivesItsWord : Prop :=
  ∀ (s : State) (rd : RegId) (offset : Int), s.TablesLoaded → -1048576 ≤ offset → offset ≤ 1048575 → offset % 2 = 0 →
      exec (.jal rd offset) s = .next (s.answer (.ok (fmtJ (tc 21 offset) rd 0b1101111#7)))

/-- The pseudocode of rules R360 to R363, with the frame: only the output ports change. -/
def Obligations.FixedInstructionsDriveTheirWord : Prop :=
  ∀ s : State, s.TablesLoaded →
      exec .ecall s = .next (s.answer (.ok 0x00000073#32)) ∧
      exec .ebreak s = .next (s.answer (.ok 0x00100073#32)) ∧
      exec .fenceTso s = .next (s.answer (.ok 0x8330000F#32)) ∧
      exec .pause s = .next (s.answer (.ok 0x0100000F#32))

/-- The range and alignment checks of rules R86 to R90. -/
def Obligations.ImmediateChecksRaiseTheirError : Prop :=
  ∀ (s : State) (a b : RegId) (v : Int), s.TablesLoaded →
    (v < -2048 ∨ 2047 < v → ∀ i ∈ [.addi a b v, .slti a b v, .sltiu a b v, .xori a b v, .ori a b v, .andi a b v, .lb a b v, .lh a b v, .lw a b v, .lbu a b v, .lhu a b v, .jalr a b v, .sb a b v, .sh a b v, .sw a b v],
      exec i s = .next (s.answer (.error .immediateOutOfRange))) ∧
    (v < 0 ∨ 31 < v → ∀ i ∈ [.slli a b v, .srli a b v, .srai a b v], exec i s = .next (s.answer (.error .immediateOutOfRange))) ∧
    (v < -524288 ∨ 1048575 < v → ∀ i ∈ [.lui a v, .auipc a v], exec i s = .next (s.answer (.error .immediateOutOfRange))) ∧
    (v < -4096 ∨ 4095 < v → ∀ i ∈ [.beq a b v, .bne a b v, .blt a b v, .bge a b v, .bltu a b v, .bgeu a b v],
      exec i s = .next (s.answer (.error .immediateOutOfRange))) ∧
    (-4096 ≤ v ∧ v ≤ 4095 ∧ v % 2 = 1 → ∀ i ∈ [.beq a b v, .bne a b v, .blt a b v, .bge a b v, .bltu a b v, .bgeu a b v],
      exec i s = .next (s.answer (.error .immediateMisaligned))) ∧
    (v < -1048576 ∨ 1048575 < v → exec (.jal a v) s = .next (s.answer (.error .immediateOutOfRange))) ∧
    (-1048576 ≤ v ∧ v ≤ 1048575 ∧ v % 2 = 1 → exec (.jal a v) s = .next (s.answer (.error .immediateMisaligned)))

/-- An encode call is all or nothing (rules R55, R114). -/
def Obligations.ExecAnswersAWordExactlyWhenWellFormed : Prop :=
  ∀ (s : State) (i : Instr), s.TablesLoaded →
    (i.WellFormed → exec i s = .next (s.answer (.ok (encode i)))) ∧
    (¬ i.WellFormed → ∃ k, (k = ErrorKind.immediateOutOfRange ∨ k = ErrorKind.immediateMisaligned) ∧ exec i s = .next (s.answer (.error k)))

/-- Rules R200 to R210 as the machine obeys them on text. -/
def Obligations.RLinesEncodeAsRuled : Prop :=
  (∀ s : State, s.Ready → ∀ m f7 f3, (m, f7, f3) ∈ rRows → s.lineMnemonic = m →
    (∀ a b c rd rs1 rs2, s.lineOperands = .ok [a, b, c] → resolve Tables.contents a = some rd → resolve Tables.contents b = some rs1 → resolve Tables.contents c = some rs2 →
      (step s = .next (s.answer (.ok (fmtR f7 rs2 rs1 f3 rd 0b0110011#7))))) ∧
    ((∀ a b c, s.lineOperands = .ok [a, b, c] → resolve Tables.contents a = none ∨ resolve Tables.contents b = none ∨ resolve Tables.contents c = none) →
      step s = .next (s.answer (.error .malformedOperands)))) ∧
  (∀ f7 rs2 rs1 f3 rd op, funct7Of (fmtR f7 rs2 rs1 f3 rd op) = f7 ∧ rs2Of (fmtR f7 rs2 rs1 f3 rd op) = rs2 ∧
    rs1Of (fmtR f7 rs2 rs1 f3 rd op) = rs1 ∧ funct3Of (fmtR f7 rs2 rs1 f3 rd op) = f3 ∧ rdOf (fmtR f7 rs2 rs1 f3 rd op) = rd ∧
    opcodeOf (fmtR f7 rs2 rs1 f3 rd op) = op) ∧
  ExamplesHold
      [(ascii "add x1, x2, x3".toList, .ok 0x003100B3#32),
       (ascii "sub a0, a1, a2".toList, .ok 0x40C58533#32),
       (ascii "sll t0, t1, t2".toList, .ok 0x007312B3#32),
       (ascii "slt s1, s2, s3".toList, .ok 0x013924B3#32),
       (ascii "sltu a3, a4, a5".toList, .ok 0x00F736B3#32),
       (ascii "xor x5, x6, x7".toList, .ok 0x007342B3#32),
       (ascii "srl x8, x9, x10".toList, .ok 0x00A4D433#32),
       (ascii "sra x8, x9, x10".toList, .ok 0x40A4D433#32),
       (ascii "or x11, x12, x13".toList, .ok 0x00D665B3#32),
       (ascii "and x14, x15, x16".toList, .ok 0x0107F733#32),
       (ascii "add x0, x0, x0".toList, .ok 0x00000033#32)]

/-- Rules R220 to R226 as the machine obeys them on text. -/
def Obligations.IArithLinesEncodeAsRuled : Prop :=
  (∀ s : State, s.Ready → ∀ m f3, (m, f3) ∈ iArithRows → s.lineMnemonic = m →
    (∀ a b v rd rs1 imm, s.lineOperands = .ok [a, b, v] → resolve Tables.contents a = some rd → resolve Tables.contents b = some rs1 → immToken v = some imm →
      (-2048 ≤ imm ∧ imm ≤ 2047 → step s = .next (s.answer (.ok (fmtI (tc 12 imm) rs1 f3 rd 0b0010011#7)))) ∧
      (imm < -2048 ∨ 2047 < imm → step s = .next (s.answer (.error .immediateOutOfRange)))) ∧
    ((∀ a b v, s.lineOperands = .ok [a, b, v] → resolve Tables.contents a = none ∨ resolve Tables.contents b = none ∨ immToken v = none) →
      step s = .next (s.answer (.error .malformedOperands)))) ∧
  ExamplesHold
      [(ascii "addi x1, x2, 10".toList, .ok 0x00A10093#32),
       (ascii "slti t0, t1, -1".toList, .ok 0xFFF32293#32),
       (ascii "sltiu a0, a0, 1".toList, .ok 0x00153513#32),
       (ascii "xori a1, a1, -1".toList, .ok 0xFFF5C593#32),
       (ascii "ori sp, sp, 2047".toList, .ok 0x7FF16113#32),
       (ascii "andi gp, tp, -2048".toList, .ok 0x80027193#32),
       (ascii "addi x0, x0, 0".toList, .ok 0x00000013#32),
       (ascii "addi x1, x2, 0x10".toList, .error .malformedOperands),
       (ascii "addi x1, x2, 2048".toList, .error .immediateOutOfRange),
       (ascii "addi x1, x2, 4095".toList, .error .immediateOutOfRange),
       (ascii "addi x1, x2, -2049".toList, .error .immediateOutOfRange),
       (ascii "sltiu a0, a0, 4095".toList, .error .immediateOutOfRange),
       (ascii "sltiu a0, a0, -1".toList, .ok 0xFFF53513#32)]

/-- Rules R240 to R246 as the machine obeys them on text. -/
def Obligations.LoadAndJalrLinesEncodeAsRuled : Prop :=
  (∀ s : State, s.Ready → ∀ m f3 op, (m, f3, op) ∈ iLoadJalrRows → s.lineMnemonic = m →
    (∀ a v rd offset rs1, s.lineOperands = .ok [a, v] → resolve Tables.contents a = some rd → memToken Tables.contents v = some (offset, rs1) →
      (-2048 ≤ offset ∧ offset ≤ 2047 → step s = .next (s.answer (.ok (fmtI (maskFFF offset) rs1 f3 rd op)))) ∧
      (offset < -2048 ∨ 2047 < offset → step s = .next (s.answer (.error .immediateOutOfRange)))) ∧
    ((∀ a v, s.lineOperands = .ok [a, v] → resolve Tables.contents a = none ∨ memToken Tables.contents v = none) →
      step s = .next (s.answer (.error .malformedOperands)))) ∧
  (∀ v : Int, ((maskFFF v).toNat : Int) = v % 4096 ∧ maskFFF v = tc 12 v) ∧
  ExamplesHold
      [(ascii "lb a0, 0(sp)".toList, .ok 0x00010503#32),
       (ascii "lh a1, -2(s0)".toList, .ok 0xFFE41583#32),
       (ascii "lw x1, 10(x2)".toList, .ok 0x00A12083#32),
       (ascii "lbu t0, 2047(t1)".toList, .ok 0x7FF34283#32),
       (ascii "lhu t1, -2048(t2)".toList, .ok 0x8003D303#32),
       (ascii "jalr ra, 0(t0)".toList, .ok 0x000280E7#32),
       (ascii "lw x1, (x2)".toList, .error .malformedOperands),
       (ascii "lw x1, 10 (x2)".toList, .error .malformedOperands),
       (ascii "lw x1, x2, 10".toList, .error .malformedOperands),
       (ascii "lw x1, 10".toList, .error .malformedOperands),
       (ascii "jalr ra, t0, 0".toList, .error .malformedOperands),
       (ascii "jalr t0".toList, .error .malformedOperands),
       (ascii "lw x1, 2048(x2)".toList, .error .immediateOutOfRange),
       (ascii "lw x1, 4095(x2)".toList, .error .immediateOutOfRange),
       (ascii "jalr x1, 3(x5)".toList, .ok 0x003280E7#32),
       (ascii "jalr t0, 0(t0)".toList, .ok 0x000282E7#32)]

/-- Rules R260 to R263 as the machine obeys them on text. -/
def Obligations.IShiftLinesEncodeAsRuled : Prop :=
  (∀ s : State, s.Ready → ∀ m f7 f3, (m, f7, f3) ∈ iShiftRows → s.lineMnemonic = m →
    (∀ a b v rd rs1 shamt, s.lineOperands = .ok [a, b, v] → resolve Tables.contents a = some rd → resolve Tables.contents b = some rs1 → immToken v = some shamt →
      (0 ≤ shamt ∧ shamt ≤ 31 → step s = .next (s.answer (.ok (fmtIShift f7 (tc 5 shamt) rs1 f3 rd 0b0010011#7)))) ∧
      (shamt < 0 ∨ 31 < shamt → step s = .next (s.answer (.error .immediateOutOfRange)))) ∧
    ((∀ a b v, s.lineOperands = .ok [a, b, v] → resolve Tables.contents a = none ∨ resolve Tables.contents b = none ∨ immToken v = none) →
      step s = .next (s.answer (.error .malformedOperands)))) ∧
  (∀ m f7 f3 sh rs1 rd, (m, f7, f3) ∈ iShiftRows → (fmtIShift f7 sh rs1 f3 rd 0b0010011#7).getLsbD 25 = false) ∧
  ExamplesHold
      [(ascii "slli a0, a0, 3".toList, .ok 0x00351513#32),
       (ascii "srli a1, a2, 31".toList, .ok 0x01F65593#32),
       (ascii "srai a3, a4, 1".toList, .ok 0x40175693#32),
       (ascii "slli x1, x1, 0".toList, .ok 0x00009093#32),
       (ascii "slli x1, x1, 32".toList, .error .immediateOutOfRange),
       (ascii "srli x1, x1, -1".toList, .error .immediateOutOfRange),
       (ascii "srai x1, x1, 63".toList, .error .immediateOutOfRange)]

/-- Rules R280 to R283 as the machine obeys them on text. -/
def Obligations.StoreLinesEncodeAsRuled : Prop :=
  (∀ s : State, s.Ready → ∀ m f3, (m, f3) ∈ sRows → s.lineMnemonic = m →
    (∀ a v rs2 offset rs1, s.lineOperands = .ok [a, v] → resolve Tables.contents a = some rs2 → memToken Tables.contents v = some (offset, rs1) →
      (-2048 ≤ offset ∧ offset ≤ 2047 → step s = .next (s.answer (.ok (fmtS (maskFFF offset) rs2 rs1 f3 0b0100011#7)))) ∧
      (offset < -2048 ∨ 2047 < offset → step s = .next (s.answer (.error .immediateOutOfRange)))) ∧
    ((∀ a v, s.lineOperands = .ok [a, v] → resolve Tables.contents a = none ∨ memToken Tables.contents v = none) →
      step s = .next (s.answer (.error .malformedOperands)))) ∧
  (∀ f rs2 rs1 f3 op, (fmtS f rs2 rs1 f3 op).extractLsb' 25 7 ++ (fmtS f rs2 rs1 f3 op).extractLsb' 7 5 = f) ∧
  ExamplesHold
      [(ascii "sb a0, 0(sp)".toList, .ok 0x00A10023#32),
       (ascii "sh a1, -2(fp)".toList, .ok 0xFEB41F23#32),
       (ascii "sw x1, 10(x2)".toList, .ok 0x00112523#32),
       (ascii "sw x0, -1(x0)".toList, .ok 0xFE002FA3#32),
       (ascii "sw ra, 2047(sp)".toList, .ok 0x7E112FA3#32),
       (ascii "sb t6, -2048(t5)".toList, .ok 0x81FF0023#32),
       (ascii "sw x1, 2048(x2)".toList, .error .immediateOutOfRange),
       (ascii "sw x1, -2049(x2)".toList, .error .immediateOutOfRange)]

/-- Rules R300 to R306 as the machine obeys them on text. -/
def Obligations.BranchLinesEncodeAsRuled : Prop :=
  (∀ s : State, s.Ready → ∀ m f3, (m, f3) ∈ bRows → s.lineMnemonic = m →
    (∀ a b v rs1 rs2 offset, s.lineOperands = .ok [a, b, v] → resolve Tables.contents a = some rs1 → resolve Tables.contents b = some rs2 → immToken v = some offset →
      (-4096 ≤ offset ∧ offset ≤ 4095 ∧ offset % 2 = 0 → step s = .next (s.answer (.ok (fmtB (tc 13 offset) rs2 rs1 f3 0b1100011#7)))) ∧
      (offset < -4096 ∨ 4095 < offset → step s = .next (s.answer (.error .immediateOutOfRange))) ∧
      (-4096 ≤ offset ∧ offset ≤ 4095 ∧ offset % 2 = 1 → step s = .next (s.answer (.error .immediateMisaligned)))) ∧
    ((∀ a b v, s.lineOperands = .ok [a, b, v] → resolve Tables.contents a = none ∨ resolve Tables.contents b = none ∨ immToken v = none) →
      step s = .next (s.answer (.error .malformedOperands)))) ∧
  ExamplesHold
      [(ascii "beq x1, x2, 8".toList, .ok 0x00208463#32),
       (ascii "bne a0, zero, -4".toList, .ok 0xFE051EE3#32),
       (ascii "blt t0, t1, 4094".toList, .ok 0x7E62CFE3#32),
       (ascii "bge s0, s1, -4096".toList, .ok 0x80945063#32),
       (ascii "bltu a0, a1, 2".toList, .ok 0x00B56163#32),
       (ascii "bgeu x31, x30, 2048".toList, .ok 0x01EFF0E3#32),
       (ascii "beq x0, x0, 0".toList, .ok 0x00000063#32),
       (ascii "beq x1, x2, 4095".toList, .error .immediateMisaligned),
       (ascii "beq x1, x2, 1".toList, .error .immediateMisaligned),
       (ascii "beq x1, x2, -1".toList, .error .immediateMisaligned),
       (ascii "beq x1, x2, 4096".toList, .error .immediateOutOfRange),
       (ascii "beq x1, x2, 4097".toList, .error .immediateOutOfRange),
       (ascii "beq x1, x2, -4097".toList, .error .immediateOutOfRange),
       (ascii "beq x1, x2, loop".toList, .error .malformedOperands),
       (ascii "beq x1, x1, 8".toList, .ok 0x00108463#32)]

/-- Rules R320 to R322 as the machine obeys them on text. -/
def Obligations.UpperImmediateLinesEncodeAsRuled : Prop :=
  (∀ s : State, s.Ready → ∀ m op, (m, op) ∈ uRows → s.lineMnemonic = m →
    (∀ a v rd imm, s.lineOperands = .ok [a, v] → resolve Tables.contents a = some rd → immToken v = some imm →
      (-524288 ≤ imm ∧ imm ≤ 1048575 → step s = .next (s.answer (.ok (fmtU (tc 20 imm) rd op)))) ∧
      (imm < -524288 ∨ 1048575 < imm → step s = .next (s.answer (.error .immediateOutOfRange)))) ∧
    ((∀ a v, s.lineOperands = .ok [a, v] → resolve Tables.contents a = none ∨ immToken v = none) →
      step s = .next (s.answer (.error .malformedOperands)))) ∧
  ExamplesHold
      [(ascii "lui x1, 1".toList, .ok 0x000010B7#32),
       (ascii "auipc ra, 0".toList, .ok 0x00000097#32),
       (ascii "lui a0, -1".toList, .ok 0xFFFFF537#32),
       (ascii "lui a0, 1048575".toList, .ok 0xFFFFF537#32),
       (ascii "lui x1, 524287".toList, .ok 0x7FFFF0B7#32),
       (ascii "lui x1, -524288".toList, .ok 0x800000B7#32),
       (ascii "lui x1, 524288".toList, .ok 0x800000B7#32),
       (ascii "lui x1, 0".toList, .ok 0x000000B7#32),
       (ascii "lui x1, 1048576".toList, .error .immediateOutOfRange),
       (ascii "lui x1, -524289".toList, .error .immediateOutOfRange)]

/-- Rules R340 and R341 as the machine obeys them on text. -/
def Obligations.JalLinesEncodeAsRuled : Prop :=
  (∀ s : State, s.Ready → ∀ m op, (m, op) ∈ jRows → s.lineMnemonic = m →
    (∀ a v rd offset, s.lineOperands = .ok [a, v] → resolve Tables.contents a = some rd → immToken v = some offset →
      (-1048576 ≤ offset ∧ offset ≤ 1048575 ∧ offset % 2 = 0 → step s = .next (s.answer (.ok (fmtJ (tc 21 offset) rd op)))) ∧
      (offset < -1048576 ∨ 1048575 < offset → step s = .next (s.answer (.error .immediateOutOfRange))) ∧
      (-1048576 ≤ offset ∧ offset ≤ 1048575 ∧ offset % 2 = 1 → step s = .next (s.answer (.error .immediateMisaligned)))) ∧
    ((∀ a v, s.lineOperands = .ok [a, v] → resolve Tables.contents a = none ∨ immToken v = none) →
      step s = .next (s.answer (.error .malformedOperands)))) ∧
  ExamplesHold
      [(ascii "jal x1, 2000".toList, .ok 0x7D0000EF#32),
       (ascii "jal zero, -2".toList, .ok 0xFFFFF06F#32),
       (ascii "jal x0, -1048576".toList, .ok 0x8000006F#32),
       (ascii "jal ra, 1048574".toList, .ok 0x7FFFF0EF#32),
       (ascii "jal x0, 0".toList, .ok 0x0000006F#32),
       (ascii "jal x0, 2".toList, .ok 0x0020006F#32),
       (ascii "jal 2000".toList, .error .malformedOperands),
       (ascii "jal ra, 1".toList, .error .immediateMisaligned),
       (ascii "jal ra, -1".toList, .error .immediateMisaligned),
       (ascii "jal ra, 1048575".toList, .error .immediateMisaligned),
       (ascii "jal ra, 1048576".toList, .error .immediateOutOfRange),
       (ascii "jal ra, -1048577".toList, .error .immediateOutOfRange)]

/-- Rules R359 to R363 as the machine obeys them on text. -/
def Obligations.FixedLinesEncodeAsRuled : Prop :=
  (∀ s : State, s.Ready → ∀ m w, (m, w) ∈ Rules.fixedRows → s.lineMnemonic = m →
    (s.lineOperands = .ok [] → step s = .next (s.answer (.ok w))) ∧
    (s.lineOperands ≠ .ok [] → step s = .next (s.answer (.error .malformedOperands)))) ∧
  ExamplesHold
      [(ascii "ecall".toList, .ok 0x00000073#32),
       (ascii "ebreak".toList, .ok 0x00100073#32),
       (ascii "fence.tso".toList, .ok 0x8330000F#32),
       (ascii "pause".toList, .ok 0x0100000F#32),
       (ascii "ECALL".toList, .ok 0x00000073#32),
       (ascii "  ecall  ".toList, .ok 0x00000073#32),
       (ascii "ecall x0".toList, .error .malformedOperands),
       (ascii "fence.tso rw, rw".toList, .error .malformedOperands),
       (ascii "ecall,".toList, .error .malformedOperands)]

/-- Rule R71. -/
def Obligations.CaseIsFoldedBeforeAnyStep : Prop :=
  (∀ s t : State, s.Ready → t.Ready → foldText s.input = foldText t.input →
    ∃ r, step s = .next (s.answer r) ∧ step t = .next (t.answer r)) ∧
  (∀ T : Text, (foldText T).length = T.length ∧ ∀ (i : Nat) (b : Byte), T[i]? = some b →
    (0x41 ≤ b.toNat ∧ b.toNat ≤ 0x5A → (foldText T)[i]? = some (b + 0x20#8)) ∧
    (b.toNat < 0x41 ∨ 0x5A < b.toNat → (foldText T)[i]? = some b)) ∧
  ExamplesHold
      [(ascii "ADD SP, Sp, sp".toList, .ok 0x00210133#32),
       (ascii "Add sp, sp, SP".toList, .ok 0x00210133#32),
       (ascii "add sp, sp, sp".toList, .ok 0x00210133#32)]

/-- Rules R72 and R73. -/
def Obligations.TrimRemovesExactlyTheOuterWhitespace : Prop :=
  (∀ b : Byte, (isSpace b = true ↔ b = 0x09#8 ∨ b = 0x0A#8 ∨ b = 0x0D#8 ∨ b = 0x20#8) ∧
    (isTokenByte b = true ↔ isSpace b = false ∧ b ≠ 0x2C#8)) ∧
  (∀ x : Text, ∃ before after, x = before ++ trim x ++ after ∧ (∀ b ∈ before ++ after, isSpace b = true) ∧
    (∀ b, (trim x).head? = some b → isSpace b = false) ∧ (∀ b, (trim x).getLast? = some b → isSpace b = false)) ∧
  (∀ (s : State) (before T after : Text), s.TablesLoaded → (∀ b ∈ before ++ after, isSpace b = true) →
    ∃ r, step (s.withInput T) = .next ((s.withInput T).answer r) ∧
      step (s.withInput (before ++ T ++ after)) = .next ((s.withInput (before ++ T ++ after)).answer r))

/-- The first half of rule R74. -/
def Obligations.MnemonicIsTheLongestTokenPrefix : Prop :=
  ∀ x : Text,
    (splitMnemonic x).1 ++ (splitMnemonic x).2 = x ∧ (∀ b ∈ (splitMnemonic x).1, isTokenByte b = true) ∧
    (∀ b, (splitMnemonic x).2.head? = some b → isTokenByte b = false) ∧
    ((splitMnemonic (trim x)).1 = [] ↔ trim x = [] ∨ (trim x).head? = some 0x2C#8)

/-- Rule R75. -/
def Obligations.OperandTokensAreCutAtSeparators : Prop :=
  (∀ rest : Text, (∀ b, rest.head? = some b → isTokenByte b = false) →
    (∀ toks, splitOperands rest = .ok toks ↔
      ∃ seps : List Text, seps.length = toks.length ∧ (∀ x ∈ seps, IsSeparator x) ∧ (∀ x ∈ toks, IsToken x) ∧
        rest = (List.zipWith (fun x y => x ++ y) seps toks).flatten) ∧
    (∀ k, splitOperands rest = .error k → k = .malformedOperands)) ∧
  ExamplesHold
      [(ascii "add x1,x2,x3".toList, .ok 0x003100B3#32),
       (ascii "add x1 x2 x3".toList, .ok 0x003100B3#32),
       (ascii "add x1, x2, x3".toList, .ok 0x003100B3#32),
       (ascii "add x1 ,x2 , x3".toList, .ok 0x003100B3#32),
       (ascii "add, x1, x2, x3".toList, .ok 0x003100B3#32),
       (ascii "add x1,, x2, x3".toList, .error .malformedOperands),
       (ascii "add x1, x2, x3,".toList, .error .malformedOperands)]

/-- Rules R76, R77 and R119. -/
def Obligations.UnrecognizedExactlyOutsideTheMnemonicTable : Prop :=
  (∀ s : State, s.Ready →
    (step s = .next (s.answer (.error .unrecognizedMnemonic)) ↔ s.lineMnemonic ∉ mnemonics)) ∧
  ([] ∉ mnemonics) ∧
  (∀ m fam, lookup m Tables.contents.family = some fam ↔
    (fam = .r ∧ m ∈ rRows.map (·.1)) ∨ (fam = .iArith ∧ m ∈ iArithRows.map (·.1)) ∨ (fam = .iLoadJalr ∧ m ∈ iLoadJalrRows.map (·.1)) ∨
    (fam = .iShift ∧ m ∈ iShiftRows.map (·.1)) ∨ (fam = .s ∧ m ∈ sRows.map (·.1)) ∨ (fam = .b ∧ m ∈ bRows.map (·.1)) ∨
    (fam = .u ∧ m ∈ uRows.map (·.1)) ∨ (fam = .j ∧ m ∈ jRows.map (·.1)) ∨ (fam = .fixed ∧ m ∈ Rules.fixedRows.map (·.1))) ∧
  ExamplesHold
      [(ascii "".toList, .error .unrecognizedMnemonic),
       (ascii "   ".toList, .error .unrecognizedMnemonic),
       (ascii ", add x1, x2, x3".toList, .error .unrecognizedMnemonic),
       (ascii "nop".toList, .error .unrecognizedMnemonic),
       (ascii "li".toList, .error .unrecognizedMnemonic),
       (ascii "la".toList, .error .unrecognizedMnemonic),
       (ascii "mv".toList, .error .unrecognizedMnemonic),
       (ascii "not".toList, .error .unrecognizedMnemonic),
       (ascii "neg".toList, .error .unrecognizedMnemonic),
       (ascii "seqz".toList, .error .unrecognizedMnemonic),
       (ascii "snez".toList, .error .unrecognizedMnemonic),
       (ascii "sltz".toList, .error .unrecognizedMnemonic),
       (ascii "sgtz".toList, .error .unrecognizedMnemonic),
       (ascii "beqz".toList, .error .unrecognizedMnemonic),
       (ascii "bnez".toList, .error .unrecognizedMnemonic),
       (ascii "blez".toList, .error .unrecognizedMnemonic),
       (ascii "bgez".toList, .error .unrecognizedMnemonic),
       (ascii "bltz".toList, .error .unrecognizedMnemonic),
       (ascii "bgtz".toList, .error .unrecognizedMnemonic),
       (ascii "bgt".toList, .error .unrecognizedMnemonic),
       (ascii "ble".toList, .error .unrecognizedMnemonic),
       (ascii "bgtu".toList, .error .unrecognizedMnemonic),
       (ascii "bleu".toList, .error .unrecognizedMnemonic),
       (ascii "j".toList, .error .unrecognizedMnemonic),
       (ascii "jr".toList, .error .unrecognizedMnemonic),
       (ascii "ret".toList, .error .unrecognizedMnemonic),
       (ascii "call".toList, .error .unrecognizedMnemonic),
       (ascii "tail".toList, .error .unrecognizedMnemonic),
       (ascii "fence".toList, .error .unrecognizedMnemonic),
       (ascii "fence.i".toList, .error .unrecognizedMnemonic),
       (ascii "csrrw".toList, .error .unrecognizedMnemonic),
       (ascii "csrrs".toList, .error .unrecognizedMnemonic),
       (ascii "csrrc".toList, .error .unrecognizedMnemonic),
       (ascii "csrrwi".toList, .error .unrecognizedMnemonic),
       (ascii "csrrsi".toList, .error .unrecognizedMnemonic),
       (ascii "csrrci".toList, .error .unrecognizedMnemonic),
       (ascii "mret".toList, .error .unrecognizedMnemonic),
       (ascii "sret".toList, .error .unrecognizedMnemonic),
       (ascii "wfi".toList, .error .unrecognizedMnemonic)]

/-- Rules R79 to R82. -/
def Obligations.RegisterTokensResolveAsRuled : Prop :=
  (∀ (token : Text) (r : RegId), resolve Tables.contents token = some r ↔
    abiNames[r.toNat]? = some token ∨ (token = ascii ['f', 'p'] ∧ r = 8#5) ∨
    (token = 0x78#8 :: decimal r.toNat)) ∧
  (∀ s : State, s.Ready → ∀ fam toks, lookup s.lineMnemonic Tables.contents.family = some fam → s.lineOperands = .ok toks →
    (∀ n ∈ regPositions fam, ∀ token, toks[n]? = some token → resolve Tables.contents token = none →
      step s = .next (s.answer (.error .malformedOperands))) ∧
    (∀ I R, fam = .iLoadJalr ∨ fam = .s → toks[1]? = some (I ++ [0x28#8] ++ R ++ [0x29#8]) → 0x28#8 ∉ I →
      resolve Tables.contents R = none → step s = .next (s.answer (.error .malformedOperands)))) ∧
  ExamplesHold
      [(ascii "add x0, x5, x31".toList, .ok 0x01F28033#32),
       (ascii "add x1, x2, x32".toList, .error .malformedOperands),
       (ascii "add x1, x2, x05".toList, .error .malformedOperands),
       (ascii "add x1, x2, x".toList, .error .malformedOperands),
       (ascii "add x1, x2, x-1".toList, .error .malformedOperands),
       (ascii "add x1, x2, r5".toList, .error .malformedOperands),
       (ascii "add x1, x2, 5".toList, .error .malformedOperands),
       (ascii "lw x1, 10(x32)".toList, .error .malformedOperands),
       (ascii "add fp, s0, fp".toList, .ok 0x00840433#32)]

/-- Rule R84. -/
def Obligations.ImmediateTokensAreSignedDecimals : Prop :=
  (∀ (token : Text) (v : Int), immToken token = some v ↔
    ∃ digits, IsDigits digits ∧
      ((token = digits ∧ v = decimalValue digits) ∨ (token = 0x2B#8 :: digits ∧ v = decimalValue digits) ∨
       (token = 0x2D#8 :: digits ∧ v = -(decimalValue digits : Int)))) ∧
  ExamplesHold
      [(ascii "addi a0, zero, +7".toList, .ok 0x00700513#32),
       (ascii "addi a0, zero, 007".toList, .ok 0x00700513#32),
       (ascii "addi a0, zero, -0".toList, .ok 0x00000513#32),
       (ascii "addi x1, x2, 0x10".toList, .error .malformedOperands),
       (ascii "addi x1, x2, 0b1".toList, .error .malformedOperands),
       (ascii "addi x1, x2, 0o7".toList, .error .malformedOperands),
       (ascii "addi x1, x2, 1_0".toList, .error .malformedOperands),
       (ascii "addi x1, x2, 1+1".toList, .error .malformedOperands),
       (ascii "addi x1, x2, sym".toList, .error .malformedOperands),
       (ascii "lui x1, %hi(sym)".toList, .error .malformedOperands),
       (ascii "addi x1, x2, 'a'".toList, .error .malformedOperands),
       (ascii "addi x1, x2, --1".toList, .error .malformedOperands)]

/-- Rule R85. -/
def Obligations.MemoryTokensAreOffsetAndBase : Prop :=
  (∀ (token : Text) (v : Int) (r : RegId), memToken Tables.contents token = some (v, r) ↔
    ∃ I R, token = I ++ [0x28#8] ++ R ++ [0x29#8] ∧ immToken I = some v ∧ resolve Tables.contents R = some r ∧
      0x28#8 ∉ R ∧ 0x29#8 ∉ R) ∧
  ExamplesHold
      [(ascii "lw x1, 10(x2)".toList, .ok 0x00A12083#32),
       (ascii "lw x1, -4(sp)".toList, .ok 0xFFC12083#32),
       (ascii "lw x1, +0(a0)".toList, .ok 0x00052083#32),
       (ascii "lw x1, (x2)".toList, .error .malformedOperands),
       (ascii "lw x1, 10(x2".toList, .error .malformedOperands),
       (ascii "lw x1, 10(x2)x".toList, .error .malformedOperands),
       (ascii "lw x1, 10 (x2)".toList, .error .malformedOperands)]

/-- Rule R401. -/
def Obligations.ErrorKindsPerFamilyAreExactlyTheRuledOnes : Prop :=
  ∀ (fam : Family) (k : ErrorKind), k ∈ kindsOf fam ↔
    ∃ s : State, s.Ready ∧ lookup s.lineMnemonic Tables.contents.family = some fam ∧ step s = .next (s.answer (.error k))

/-- Rule R403. -/
def Obligations.EarliestErrorIsReported : Prop :=
  (∀ s : State, s.Ready →
    (lookup s.lineMnemonic Tables.contents.family = none → step s = .next (s.answer (.error .unrecognizedMnemonic))) ∧
    ∀ fam, lookup s.lineMnemonic Tables.contents.family = some fam →
      (∀ k, s.lineOperands = .error k → step s = .next (s.answer (.error .malformedOperands))) ∧
      ∀ toks, s.lineOperands = .ok toks →
        (bindShape Tables.contents fam.shape toks = none → step s = .next (s.answer (.error .malformedOperands))) ∧
        ∀ ops, bindShape Tables.contents fam.shape toks = some ops →
          (∃ r, step s = .next (s.answer r) ∧ r ≠ .error .unrecognizedMnemonic ∧ r ≠ .error .malformedOperands) ∧
          (∀ a b v, fam = .b → ops = .regRegImm a b v →
            (v < -4096 ∨ 4095 < v → step s = .next (s.answer (.error .immediateOutOfRange))) ∧
            (-4096 ≤ v ∧ v ≤ 4095 ∧ v % 2 = 1 → step s = .next (s.answer (.error .immediateMisaligned)))) ∧
          (∀ a v, fam = .j → ops = .regImm a v →
            (v < -1048576 ∨ 1048575 < v → step s = .next (s.answer (.error .immediateOutOfRange))) ∧
            (-1048576 ≤ v ∧ v ≤ 1048575 ∧ v % 2 = 1 → step s = .next (s.answer (.error .immediateMisaligned))))) ∧
  ExamplesHold
      [(ascii "foo x1,,x2".toList, .error .unrecognizedMnemonic),
       (ascii "add x1,,x2".toList, .error .malformedOperands),
       (ascii "addi x99, x1, 5000".toList, .error .malformedOperands),
       (ascii "beq x1, x2, 5001".toList, .error .immediateOutOfRange),
       (ascii "beq x1, x2, 3".toList, .error .immediateMisaligned),
       (ascii "beq x1, x2, 4097".toList, .error .immediateOutOfRange)]

/-- Rule R402, with the codes of rule R400. -/
def Obligations.OutErrNamesTheKindAndTheWordIsZeroOnError : Prop :=
  (∀ s s' : State, step s = .next s' →
    s'.tables = s.tables ∧ s'.inText = s.inText ∧ s'.inLen = s.inLen ∧
    ((s'.outErr = 0#3 ∧ ∃ i : Instr, i.WellFormed ∧ s'.outWord = encode i) ∨
     ((s'.outErr = 1#3 ∨ s'.outErr = 2#3 ∨ s'.outErr = 3#3 ∨ s'.outErr = 4#3) ∧ s'.outWord = 0x00000000#32))) ∧
  (∀ s : State, s.Ready → ∀ k, encodeText Tables.contents s.input = .error k →
    step s = .next { s with outWord := 0x00000000#32, outErr := match k with
      | .unrecognizedMnemonic => 1#3 | .malformedOperands => 2#3 | .immediateOutOfRange => 3#3 | .immediateMisaligned => 4#3 }) ∧
  (∀ s : State, (s.outErr = 0#3 → s.sample = (0#3, some s.outWord)) ∧ (s.outErr ≠ 0#3 → s.sample = (s.outErr, none)) ∧
    ∀ w, s.outErr ≠ 0#3 → State.sample { s with outWord := w } = s.sample) ∧
  (∀ (s : State) (w : Word) (e : BitVec 3), step { s with outWord := w, outErr := e } = step s ∧
    ∀ i, exec i { s with outWord := w, outErr := e } = exec i s)

/-- Rules R23 and R70: the machine is the total function of the spec. -/
def Obligations.StepIsTheEncodeFunction : Prop :=
  ∀ s : State, s.Ready → step s = .next (s.answer (encodeText Tables.contents s.input))

/-- Rules R22 and R23. -/
def Obligations.OutputsDependOnTheInputTextAlone : Prop :=
  ∀ s t : State, s.Ready → t.Ready → s.input = t.input →
    ∃ s' t', step s = .next s' ∧ step t = .next t' ∧
      s'.outErr = t'.outErr ∧ s'.outWord = t'.outWord ∧ s'.sample = t'.sample

/-- Rules R55 and R405. -/
def Obligations.CallsAreIdempotent : Prop :=
  ∀ s s' : State, step s = .next s' →
    step s' = .next s' ∧ s'.tables = s.tables ∧ s'.inText = s.inText ∧ s'.inLen = s.inLen ∧
    ((∃ w, encodeText Tables.contents s.input = .ok w ∧ s'.outErr = 0#3 ∧ s'.outWord = w) ∨
     (∃ k, encodeText Tables.contents s.input = .error k ∧ s'.outErr ≠ 0#3 ∧ s'.outWord = 0x00000000#32))

/-- Rules R57 and R452. -/
def Obligations.CallSequencesNeverInteract : Prop :=
  ∀ (s : State) (lines : List Text), s.TablesLoaded →
    s.runCalls lines = lines.map (fun T => sampleOf (encodeText Tables.contents T)) ∧
    ∀ lines', lines.Perm lines' → (s.runCalls lines).Perm (s.runCalls lines')

/-- Rules R21, R22, R35, R51, R400, R402 and R114 as one invariant. -/
def Obligations.EveryStepKeepsTheInvariant : Prop :=
  ∀ s : State, s.Inv → ∃ s', step s = .next s' ∧ s'.Inv ∧ s'.Settled

/-- Rules R21 and R51. -/
def Obligations.TablesAndInputsAreNeverWritten : Prop :=
  ∀ s s' : State, (step s = .next s' ∨ ∃ i, exec i s = .next s') →
    s' = { s with outWord := s'.outWord, outErr := s'.outErr } ∧
    ∀ key, lookup key s'.tables.primary = lookup key s.tables.primary ∧ lookup key s'.tables.secondary = lookup key s.tables.secondary ∧
      lookup key s'.tables.family = lookup key s.tables.family ∧ lookup key s'.tables.opcode = lookup key s.tables.opcode ∧
      lookup key s'.tables.funct3 = lookup key s.tables.funct3 ∧ lookup key s'.tables.funct7 = lookup key s.tables.funct7 ∧
      lookup key s'.tables.fixed = lookup key s.tables.fixed

/-- Rule R451 and 93_implementation_defined.md U8. -/
def Obligations.StepStopsExactlyOutsideTheSpec : Prop :=
  ∀ s : State,
    ((∃ s', step s = .next s') ↔ s.Ready) ∧
    (∀ r, step s = .refused r ↔
      (¬ s.InputFits ∧ r = .inputBeyondCapacity) ∨ (s.InputFits ∧ ¬ s.TablesLoaded ∧ r = .tablesNotLoaded)) ∧
    (∀ f, step s ≠ .fault f) ∧
    (∀ i, (∃ s', exec i s = .next s') ↔ s.TablesLoaded) ∧
    (∀ i r, exec i s = .refused r ↔ ¬ s.TablesLoaded ∧ r = .tablesNotLoaded)

/-- Rule R103: the formulas give back the value written, and for U tc_20 of it. -/
def Obligations.DecodeInvertsEncode : Prop :=
  ∀ i : Instr, i.WellFormed → decodeWord (encode i) = .ok i.canonical

/-- The other direction of rule R103, over all words. -/
def Obligations.EncodeInvertsDecode : Prop :=
  ∀ (w : Word) (i : Instr), decodeWord w = .ok i → i.WellFormed ∧ encode i = w

/-- Rules R71 to R85 and R120, with no bound on the immediate. -/
def Obligations.ParseInvertsPrint : Prop :=
  ∀ i : Instr, parse Tables.contents (print i) = .ok i

/-- The encoder end to end: text in, the same word out. -/
def Obligations.FetchedTableWordComesOutAgain : Prop :=
  ∀ (s : State) (w : Word) (i : Instr), decodeWord w = .ok i →
    decodeTableWord 32 w.toNat = some i ∧
    step (s.withFetchWord 32 w.toNat) = exec i (s.withFetchWord 32 w.toNat) ∧
    step (s.withFetchWord 32 w.toNat) = .next ((s.withFetchWord 32 w.toNat).answer (.ok w))

/-- Rules R114 and R118. -/
def Obligations.EveryYieldedWordMatchesOneTableRow : Prop :=
  ∀ s s' : State, s.Ready → step s = .next s' →
    (s'.outErr = 0#3 → ((opcodeTable.filter fun row => row.matchesWord s'.outWord).map (·.mnemonic)) = [s.lineMnemonic] ∧
      s'.outWord.extractLsb' 0 2 = 0b11#2) ∧
    (s'.outErr ≠ 0#3 → s'.outWord = 0x00000000#32)

/-- Rules R100, R101 and R102. -/
def Obligations.ImmediateBitsArePlacedAsRuled : Prop :=
  (∀ (a b : RegId) (v : Int), ∀ w ∈ [encode (.addi a b v), encode (.slti a b v), encode (.sltiu a b v), encode (.xori a b v), encode (.ori a b v), encode (.andi a b v), encode (.lb a b v), encode (.lh a b v), encode (.lw a b v), encode (.lbu a b v), encode (.lhu a b v), encode (.jalr a b v)],
      w.extractLsb' 20 12 = tc 12 v) ∧
  (∀ (a b : RegId) (v : Int), ∀ w ∈ [encode (.sb a b v), encode (.sh a b v), encode (.sw a b v)],
      w.extractLsb' 25 7 = (tc 12 v).extractLsb' 5 7 ∧ w.extractLsb' 7 5 = (tc 12 v).extractLsb' 0 5 ∧
      w.extractLsb' 25 7 ++ w.extractLsb' 7 5 = maskFFF v) ∧
  (∀ (a b : RegId) (v : Int), ∀ w ∈ [encode (.beq a b v), encode (.bne a b v), encode (.blt a b v), encode (.bge a b v), encode (.bltu a b v), encode (.bgeu a b v)],
      w.extractLsb' 31 1 = (tc 13 v).extractLsb' 12 1 ∧ w.extractLsb' 25 6 = (tc 13 v).extractLsb' 5 6 ∧
      w.extractLsb' 8 4 = (tc 13 v).extractLsb' 1 4 ∧ w.extractLsb' 7 1 = (tc 13 v).extractLsb' 11 1 ∧
      (-4096 ≤ v → v ≤ 4095 → (w.getLsbD 31 = true ↔ v < 0))) ∧
  (∀ (a b : RegId) (f g : BitVec 13) (f3 : BitVec 3) (op : BitVec 7), f.extractLsb' 1 12 = g.extractLsb' 1 12 → fmtB f a b f3 op = fmtB g a b f3 op) ∧
  (∀ (a : RegId) (v : Int),
      (encode (.jal a v)).extractLsb' 31 1 = (tc 21 v).extractLsb' 20 1 ∧ (encode (.jal a v)).extractLsb' 21 10 = (tc 21 v).extractLsb' 1 10 ∧
      (encode (.jal a v)).extractLsb' 20 1 = (tc 21 v).extractLsb' 11 1 ∧ (encode (.jal a v)).extractLsb' 12 8 = (tc 21 v).extractLsb' 12 8 ∧
      (-1048576 ≤ v → v ≤ 1048575 → ((encode (.jal a v)).getLsbD 31 = true ↔ v < 0))) ∧
  (∀ (a : RegId) (f g : BitVec 21) (op : BitVec 7), f.extractLsb' 1 20 = g.extractLsb' 1 20 → fmtJ f a op = fmtJ g a op)

/-- Rules R115 and R116. -/
def Obligations.RenderingsSpellTheWord : Prop :=
  (∀ w : Word, (render w).length = 32 ∧ ∀ i, i < 32 → (render w)[i]? = some (if w.getLsbD (31 - i) then 0x31#8 else 0x30#8)) ∧
  (∀ (w : Word) (fam : Family), (renderFields w fam).filter (fun b => b != 0x20#8) = render w) ∧
  (∀ w : Word, renderFields w .fixed = render w) ∧
  (∀ (w : Word) (fam : Family), renderFields w fam =
    (((fieldSpans fam).map fun span => spellBits w span.1 span.2).intersperse [0x20#8]).flatten)
end

