-- ==== Sys2Proof/Laws/Formats.lean ====
section
/-! SUPPORT. The fields of a formatted word are the fields put in (rules R91 to R103), and the two constructions of a 12-bit pattern
agree (conflict C4). -/

namespace Sys2Proof

/-- A field wholly inside the low part of a concatenation. -/
theorem extract_append_low {n m : Nat} (x : BitVec n) (y : BitVec m) (start len : Nat) (h : start + len ≤ m) :
    (x ++ y).extractLsb' start len = y.extractLsb' start len := by
  ext i hi
  simp only [BitVec.getElem_extractLsb', BitVec.getLsbD_append]
  rw [if_pos (by omega)]

/-- A field wholly inside the high part of a concatenation. -/
theorem extract_append_high {n m : Nat} (x : BitVec n) (y : BitVec m) (start len : Nat) (h : m ≤ start) :
    (x ++ y).extractLsb' start len = x.extractLsb' (start - m) len := by
  ext i hi
  simp only [BitVec.getElem_extractLsb', BitVec.getLsbD_append]
  rw [if_neg (by omega)]
  congr 1
  omega

/-- The field that is the whole vector. -/
theorem extract_whole {n : Nat} (x : BitVec n) (start : Nat) (h : start = 0) : x.extractLsb' start n = x := by
  subst h
  ext i hi
  simp

/-- The fields of a word of three fields (U format). -/
theorem fields_of_three {a b c : Nat} (u : BitVec a) (v : BitVec b) (w : BitVec c) :
    (u ++ v ++ w).extractLsb' (b + c) a = u ∧ (u ++ v ++ w).extractLsb' c b = v ∧ (u ++ v ++ w).extractLsb' 0 c = w := by
  refine ⟨?_, ?_, ?_⟩ <;> simp (disch := omega) only [extract_append_high, extract_append_low, extract_whole]

/-- The fields of a word of five fields (I format). -/
theorem fields_of_five {a b c d e : Nat} (u : BitVec a) (v : BitVec b) (w : BitVec c) (x : BitVec d) (y : BitVec e) :
    (u ++ v ++ w ++ x ++ y).extractLsb' (b + c + d + e) a = u ∧ (u ++ v ++ w ++ x ++ y).extractLsb' (c + d + e) b = v ∧
    (u ++ v ++ w ++ x ++ y).extractLsb' (d + e) c = w ∧ (u ++ v ++ w ++ x ++ y).extractLsb' e d = x ∧
    (u ++ v ++ w ++ x ++ y).extractLsb' 0 e = y := by
  refine ⟨?_, ?_, ?_, ?_, ?_⟩ <;> simp (disch := omega) only [extract_append_high, extract_append_low, extract_whole]

/-- The fields of a word of six fields (R, I-shift, S and J formats). -/
theorem fields_of_six {a b c d e f : Nat} (u : BitVec a) (v : BitVec b) (w : BitVec c) (x : BitVec d) (y : BitVec e) (z : BitVec f) :
    (u ++ v ++ w ++ x ++ y ++ z).extractLsb' (b + c + d + e + f) a = u ∧ (u ++ v ++ w ++ x ++ y ++ z).extractLsb' (c + d + e + f) b = v ∧
    (u ++ v ++ w ++ x ++ y ++ z).extractLsb' (d + e + f) c = w ∧ (u ++ v ++ w ++ x ++ y ++ z).extractLsb' (e + f) d = x ∧
    (u ++ v ++ w ++ x ++ y ++ z).extractLsb' f e = y ∧ (u ++ v ++ w ++ x ++ y ++ z).extractLsb' 0 f = z := by
  refine ⟨?_, ?_, ?_, ?_, ?_, ?_⟩ <;> simp (disch := omega) only [extract_append_high, extract_append_low, extract_whole]

/-- The fields of a word of eight fields (B format). -/
theorem fields_of_eight {a b c d e f g h : Nat} (s : BitVec a) (t : BitVec b) (u : BitVec c) (v : BitVec d) (w : BitVec e) (x : BitVec f)
    (y : BitVec g) (z : BitVec h) :
    (s ++ t ++ u ++ v ++ w ++ x ++ y ++ z).extractLsb' (b + c + d + e + f + g + h) a = s ∧
    (s ++ t ++ u ++ v ++ w ++ x ++ y ++ z).extractLsb' (c + d + e + f + g + h) b = t ∧
    (s ++ t ++ u ++ v ++ w ++ x ++ y ++ z).extractLsb' (d + e + f + g + h) c = u ∧
    (s ++ t ++ u ++ v ++ w ++ x ++ y ++ z).extractLsb' (e + f + g + h) d = v ∧
    (s ++ t ++ u ++ v ++ w ++ x ++ y ++ z).extractLsb' (f + g + h) e = w ∧
    (s ++ t ++ u ++ v ++ w ++ x ++ y ++ z).extractLsb' (g + h) f = x ∧
    (s ++ t ++ u ++ v ++ w ++ x ++ y ++ z).extractLsb' h g = y ∧ (s ++ t ++ u ++ v ++ w ++ x ++ y ++ z).extractLsb' 0 h = z := by
  refine ⟨?_, ?_, ?_, ?_, ?_, ?_, ?_, ?_⟩ <;> simp (disch := omega) only [extract_append_high, extract_append_low, extract_whole]

/-! What each format's fields read back as; the conjuncts stand in the order of the fields, most significant first. -/

theorem fmtR_fields (f7 : BitVec 7) (rs2 rs1 : RegId) (f3 : BitVec 3) (rd : RegId) (op : BitVec 7) :
    funct7Of (fmtR f7 rs2 rs1 f3 rd op) = f7 ∧ rs2Of (fmtR f7 rs2 rs1 f3 rd op) = rs2 ∧ rs1Of (fmtR f7 rs2 rs1 f3 rd op) = rs1 ∧
    funct3Of (fmtR f7 rs2 rs1 f3 rd op) = f3 ∧ rdOf (fmtR f7 rs2 rs1 f3 rd op) = rd ∧ opcodeOf (fmtR f7 rs2 rs1 f3 rd op) = op :=
  fields_of_six f7 rs2 rs1 f3 rd op

theorem fmtI_fields (imm : BitVec 12) (rs1 : RegId) (f3 : BitVec 3) (rd : RegId) (op : BitVec 7) :
    (fmtI imm rs1 f3 rd op).extractLsb' 20 12 = imm ∧ rs1Of (fmtI imm rs1 f3 rd op) = rs1 ∧ funct3Of (fmtI imm rs1 f3 rd op) = f3 ∧
    rdOf (fmtI imm rs1 f3 rd op) = rd ∧ opcodeOf (fmtI imm rs1 f3 rd op) = op :=
  fields_of_five imm rs1 f3 rd op

theorem fmtIShift_fields (f7 : BitVec 7) (sh : BitVec 5) (rs1 : RegId) (f3 : BitVec 3) (rd : RegId) (op : BitVec 7) :
    funct7Of (fmtIShift f7 sh rs1 f3 rd op) = f7 ∧ (fmtIShift f7 sh rs1 f3 rd op).extractLsb' 20 5 = sh ∧
    rs1Of (fmtIShift f7 sh rs1 f3 rd op) = rs1 ∧ funct3Of (fmtIShift f7 sh rs1 f3 rd op) = f3 ∧
    rdOf (fmtIShift f7 sh rs1 f3 rd op) = rd ∧ opcodeOf (fmtIShift f7 sh rs1 f3 rd op) = op :=
  fields_of_six f7 sh rs1 f3 rd op

theorem fmtS_fields (imm : BitVec 12) (rs2 rs1 : RegId) (f3 : BitVec 3) (op : BitVec 7) :
    (fmtS imm rs2 rs1 f3 op).extractLsb' 25 7 = imm.extractLsb' 5 7 ∧ rs2Of (fmtS imm rs2 rs1 f3 op) = rs2 ∧
    rs1Of (fmtS imm rs2 rs1 f3 op) = rs1 ∧ funct3Of (fmtS imm rs2 rs1 f3 op) = f3 ∧
    (fmtS imm rs2 rs1 f3 op).extractLsb' 7 5 = imm.extractLsb' 0 5 ∧ opcodeOf (fmtS imm rs2 rs1 f3 op) = op :=
  fields_of_six (imm.extractLsb' 5 7) rs2 rs1 f3 (imm.extractLsb' 0 5) op

theorem fmtB_fields (imm : BitVec 13) (rs2 rs1 : RegId) (f3 : BitVec 3) (op : BitVec 7) :
    (fmtB imm rs2 rs1 f3 op).extractLsb' 31 1 = imm.extractLsb' 12 1 ∧ (fmtB imm rs2 rs1 f3 op).extractLsb' 25 6 = imm.extractLsb' 5 6 ∧
    rs2Of (fmtB imm rs2 rs1 f3 op) = rs2 ∧ rs1Of (fmtB imm rs2 rs1 f3 op) = rs1 ∧ funct3Of (fmtB imm rs2 rs1 f3 op) = f3 ∧
    (fmtB imm rs2 rs1 f3 op).extractLsb' 8 4 = imm.extractLsb' 1 4 ∧ (fmtB imm rs2 rs1 f3 op).extractLsb' 7 1 = imm.extractLsb' 11 1 ∧
    opcodeOf (fmtB imm rs2 rs1 f3 op) = op :=
  fields_of_eight (imm.extractLsb' 12 1) (imm.extractLsb' 5 6) rs2 rs1 f3 (imm.extractLsb' 1 4) (imm.extractLsb' 11 1) op

theorem fmtU_fields (imm : BitVec 20) (rd : RegId) (op : BitVec 7) :
    (fmtU imm rd op).extractLsb' 12 20 = imm ∧ rdOf (fmtU imm rd op) = rd ∧ opcodeOf (fmtU imm rd op) = op :=
  fields_of_three imm rd op

theorem fmtJ_fields (imm : BitVec 21) (rd : RegId) (op : BitVec 7) :
    (fmtJ imm rd op).extractLsb' 31 1 = imm.extractLsb' 20 1 ∧ (fmtJ imm rd op).extractLsb' 21 10 = imm.extractLsb' 1 10 ∧
    (fmtJ imm rd op).extractLsb' 20 1 = imm.extractLsb' 11 1 ∧ (fmtJ imm rd op).extractLsb' 12 8 = imm.extractLsb' 12 8 ∧
    rdOf (fmtJ imm rd op) = rd ∧ opcodeOf (fmtJ imm rd op) = op :=
  fields_of_six (imm.extractLsb' 20 1) (imm.extractLsb' 1 10) (imm.extractLsb' 11 1) (imm.extractLsb' 12 8) rd op

/-- Exclusive or with twelve ones is the complement within twelve bits. -/
theorem xor_4095 (m : Nat) (hm : m < 4096) : m ^^^ 4095 = 4095 - m := by
  have h := congrArg BitVec.toNat (BitVec.xor_allOnes (x := BitVec.ofNat 12 m))
  simpa [Nat.mod_eq_of_lt hm] using h

/-- The low twelve bits of an integer and its value mod 4096 (rule R240). -/
theorem maskFFF_toNat (v : Int) : ((maskFFF v).toNat : Int) = v % 4096 := by
  cases v with
  | ofNat n =>
    have h : n &&& 4095 = n % 4096 := Nat.and_two_pow_sub_one_eq_mod n 12
    simp only [maskFFF, h, BitVec.toNat_ofNat, Int.ofNat_eq_natCast]
    omega
  | negSucc n =>
    have h : n &&& 4095 = n % 4096 := Nat.and_two_pow_sub_one_eq_mod n 12
    simp only [maskFFF, h, xor_4095 _ (Nat.mod_lt n (by decide : 4096 > 0)), BitVec.toNat_ofNat]
    omega

end Sys2Proof
end

