-- ==== Sys2Proof/Laws/Tables.lean ====
section
/-! SUPPORT. Lookups in tables. -/

namespace Sys2Proof

@[simp] theorem lookup_nil {α : Type} (k : Text) : lookup k ([] : List (Text × α)) = none := rfl

theorem lookup_cons_self {α : Type} (k : Text) (v : α) (rows : List (Text × α)) : lookup k ((k, v) :: rows) = some v := by
  simp [lookup]

theorem lookup_cons_ne {α : Type} {k key : Text} (v : α) (rows : List (Text × α)) (h : k ≠ key) :
    lookup k ((key, v) :: rows) = lookup k rows := by
  simp [lookup, h]

/-- A lookup that finds a value finds it in a row of that key. -/
theorem mem_of_lookup {α : Type} {k : Text} {v : α} {rows : List (Text × α)} (h : lookup k rows = some v) : (k, v) ∈ rows := by
  induction rows with
  | nil => simp at h
  | cons row rows ih =>
    obtain ⟨key, x⟩ := row
    by_cases hk : k = key
    · subst hk
      simp [lookup] at h
      simp [h]
    · rw [lookup_cons_ne _ _ hk] at h
      exact List.mem_cons_of_mem _ (ih h)

/-- A lookup finds nothing exactly when the key is in no row. -/
theorem lookup_eq_none {α : Type} {k : Text} {rows : List (Text × α)} : lookup k rows = none ↔ k ∉ rows.map (·.1) := by
  induction rows with
  | nil => simp
  | cons row rows ih =>
    obtain ⟨key, x⟩ := row
    by_cases hk : k = key
    · simp [lookup, hk]
    · rw [lookup_cons_ne _ _ hk, ih]
      simp [hk]

/-- In a table whose keys are all different, a row is found under its key. -/
theorem lookup_of_mem {α : Type} {k : Text} {v : α} {rows : List (Text × α)} (hn : (rows.map (·.1)).Nodup) (h : (k, v) ∈ rows) :
    lookup k rows = some v := by
  induction rows with
  | nil => simp at h
  | cons row rows ih =>
    obtain ⟨key, x⟩ := row
    rw [List.map_cons, List.nodup_cons] at hn
    rcases List.mem_cons.1 h with h | h
    · cases h
      exact lookup_cons_self _ _ _
    · have : k ≠ key := fun e => hn.1 (List.mem_map.2 ⟨_, h, e⟩)
      rw [lookup_cons_ne _ _ this]
      exact ih hn.2 h

end Sys2Proof
end

