-- ==== Sys2Proof/Laws/Text.lean ====
section
/-! SUPPORT. Tokens, separators, trimming and decimal numerals: what each text operation of rules R71 to R75, R82 and R84 does. -/

namespace Sys2Proof

/-! Tokens (rule R74). -/

theorem takeToken_append_dropToken (s : Text) : takeToken s ++ dropToken s = s := List.takeWhile_append_dropWhile

theorem isTokenByte_of_mem_takeToken {s : Text} {b : Byte} (h : b ∈ takeToken s) : isTokenByte b = true := by
  induction s with
  | nil => simp [takeToken] at h
  | cons c cs ih =>
    by_cases hc : isTokenByte c = true
    · simp only [takeToken, List.takeWhile_cons, hc, if_true, List.mem_cons] at h
      rcases h with rfl | h
      · exact hc
      · exact ih h
    · simp [takeToken, hc] at h

theorem head_dropToken {s : Text} {b : Byte} (h : (dropToken s).head? = some b) : isTokenByte b = false := by
  have := List.head?_dropWhile_not isTokenByte s
  rw [dropToken] at h
  rw [h] at this
  simpa using this

/-- A run of token bytes, followed by the end or by a byte that is none, is cut off whole. -/
theorem takeToken_append {t r : Text} (ht : ∀ b ∈ t, isTokenByte b = true) (hr : ∀ b, r.head? = some b → isTokenByte b = false) :
    takeToken (t ++ r) = t ∧ dropToken (t ++ r) = r := by
  induction t with
  | nil =>
    cases r with
    | nil => simp [takeToken, dropToken]
    | cons c cs =>
      have hc := hr c rfl
      simp [takeToken, dropToken, hc]
  | cons c cs ih =>
    have hc := ht c (List.mem_cons_self ..)
    have := ih fun b hb => ht b (List.mem_cons_of_mem _ hb)
    simp only [takeToken, dropToken] at this ⊢
    simp [hc, this]

theorem length_dropToken_le (s : Text) : (dropToken s).length ≤ s.length := List.length_dropWhile_le ..

theorem length_dropToken_lt {c : Byte} {cs : Text} (hc : isTokenByte c = true) : (dropToken (c :: cs)).length < (c :: cs).length := by
  have : dropToken (c :: cs) = dropToken cs := by simp [dropToken, hc]
  rw [this]
  have := length_dropToken_le cs
  simp only [List.length_cons]
  omega

/-! Whitespace and separators (rules R72, R75). -/

theorem isTokenByte_iff (b : Byte) : isTokenByte b = true ↔ isSpace b = false ∧ isComma b = false := by
  simp [isTokenByte]

theorem length_dropSpace_le (s : Text) : (dropSpace s).length ≤ s.length := List.length_dropWhile_le ..

theorem head_dropSpace {s : Text} {b : Byte} (h : (dropSpace s).head? = some b) : isSpace b = false := by
  have := List.head?_dropWhile_not isSpace s
  rw [dropSpace] at h
  rw [h] at this
  simpa using this

theorem head_dropSeparator {s ds : Text} {d : Byte} (h : dropSeparator s = d :: ds) : isSpace d = false := by
  unfold dropSeparator at h
  split at h
  · simp at h
  · rename_i c cs hc
    split at h
    · exact head_dropSpace (by rw [h]; rfl)
    · cases h
      exact head_dropSpace (by rw [hc]; rfl)

theorem length_dropSeparator_le (s : Text) : (dropSeparator s).length ≤ s.length := by
  unfold dropSeparator
  have h := length_dropSpace_le s
  split
  · simp
  · rename_i c cs hc
    rw [hc] at h
    split
    · have := length_dropSpace_le cs
      simp only [List.length_cons] at h
      omega
    · exact h

/-- Fuel beyond the length of the text changes nothing. -/
theorem splitLoop_fuel (n m : Nat) (rest : Text) (hn : rest.length ≤ n) (hm : rest.length ≤ m) : splitLoop n rest = splitLoop m rest := by
  induction n generalizing m rest with
  | zero =>
    cases rest with
    | nil => cases m <;> rfl
    | cons c cs => simp at hn
  | succ n ih =>
    cases rest with
    | nil => cases m <;> rfl
    | cons c cs =>
      cases m with
      | zero => simp at hm
      | succ m =>
        have hl := length_dropSeparator_le (c :: cs)
        simp only [splitLoop]
        split
        · rfl
        · rename_i d ds hd
          split
          · rfl
          · rename_i hcomma
            have htok : isTokenByte d = true := (isTokenByte_iff d).2 ⟨head_dropSeparator hd, by simpa using hcomma⟩
            have hlt := length_dropToken_lt (cs := ds) htok
            rw [hd] at hl
            rw [ih m (dropToken (d :: ds)) (by omega) (by omega)]

/-- The loop of rule R75 as the rule writes it, one turn. -/
theorem splitOperands_eq (rest : Text) :
    splitOperands rest =
      match rest with
      | [] => .ok []
      | c :: cs =>
        match dropSeparator (c :: cs) with
        | [] => .error .malformedOperands
        | d :: ds =>
          if isComma d then .error .malformedOperands
          else
            match splitOperands (dropToken (d :: ds)) with
            | .error e => .error e
            | .ok toks => .ok (takeToken (d :: ds) :: toks) := by
  cases rest with
  | nil => rfl
  | cons c cs =>
    show splitLoop (cs.length + 1) (c :: cs) = _
    have hl := length_dropSeparator_le (c :: cs)
    simp only [splitLoop]
    cases hd : dropSeparator (c :: cs) with
    | nil => rfl
    | cons d ds =>
      by_cases hcomma : isComma d = true
      · simp [hcomma]
      · have htok : isTokenByte d = true := (isTokenByte_iff d).2 ⟨head_dropSeparator hd, by simpa using hcomma⟩
        have hlt := length_dropToken_lt (cs := ds) htok
        rw [hd] at hl
        simp only [List.length_cons] at hl hlt
        have hfuel : splitLoop cs.length (dropToken (d :: ds)) = splitOperands (dropToken (d :: ds)) :=
          splitLoop_fuel _ _ _ (by omega) (Nat.le_refl _)
        simp only [hfuel]
        all_goals rfl

@[simp] theorem splitOperands_nil : splitOperands [] = .ok [] := rfl

/-- Every error of `split_operands` is MalformedOperands (rule R75). -/
theorem splitLoop_error {n : Nat} {rest : Text} {k : ErrorKind} (h : splitLoop n rest = .error k) : k = .malformedOperands := by
  induction n generalizing rest with
  | zero => cases rest <;> simp [splitLoop] at h; exact h.symm
  | succ n ih =>
    cases rest with
    | nil => simp [splitLoop] at h
    | cons c cs =>
      simp only [splitLoop] at h
      split at h
      · cases h; rfl
      · split at h
        · cases h; rfl
        · split at h
          · rename_i e he
            cases h
            exact ih he
          · cases h

theorem splitOperands_error {rest : Text} {k : ErrorKind} (h : splitOperands rest = .error k) : k = .malformedOperands :=
  splitLoop_error h

/-- A separator in front of a token is dropped whole: whitespace, at most one comma, whitespace (rule R75). -/
theorem dropSeparator_spaces {sp : Text} (hsp : ∀ b ∈ sp, isSpace b = true) {c : Byte} (hc : isTokenByte c = true) (cs : Text) :
    dropSeparator (sp ++ c :: cs) = c :: cs := by
  obtain ⟨hs, hm⟩ := (isTokenByte_iff c).1 hc
  have h : dropSpace (sp ++ c :: cs) = c :: cs := by
    unfold dropSpace
    rw [List.dropWhile_append_of_pos hsp]
    simp [hs]
  simp [dropSeparator, h, hm]

theorem dropSeparator_comma {sp sq : Text} (hsp : ∀ b ∈ sp, isSpace b = true) (hsq : ∀ b ∈ sq, isSpace b = true) {c : Byte}
    (hc : isTokenByte c = true) (cs : Text) : dropSeparator (sp ++ 0x2C#8 :: (sq ++ c :: cs)) = c :: cs := by
  obtain ⟨hs, -⟩ := (isTokenByte_iff c).1 hc
  have h : dropSpace (sp ++ 0x2C#8 :: (sq ++ c :: cs)) = 0x2C#8 :: (sq ++ c :: cs) := by
    unfold dropSpace
    rw [List.dropWhile_append_of_pos hsp]
    rfl
  have h' : dropSpace (sq ++ c :: cs) = c :: cs := by
    unfold dropSpace
    rw [List.dropWhile_append_of_pos hsq]
    simp [hs]
  have hcomma : isComma 0x2C#8 = true := rfl
  simp [dropSeparator, h, h', hcomma]

/-- One turn of the loop over a separator and a token. -/
theorem splitOperands_turn {x t r : Text} (hx : x ≠ []) (ht : t ≠ []) (htok : ∀ b ∈ t, isTokenByte b = true)
    (hr : ∀ b, r.head? = some b → isTokenByte b = false) (hsep : dropSeparator (x ++ (t ++ r)) = t ++ r) :
    splitOperands (x ++ (t ++ r)) = (splitOperands r).map fun toks => t :: toks := by
  obtain ⟨c, cs, rfl⟩ := List.exists_cons_of_ne_nil hx
  obtain ⟨d, ds, rfl⟩ := List.exists_cons_of_ne_nil ht
  rw [splitOperands_eq]
  simp only [List.cons_append] at hsep ⊢
  simp only [hsep]
  have hd := htok d (List.mem_cons_self ..)
  have hcomma := ((isTokenByte_iff d).1 hd).2
  have h := takeToken_append htok hr
  rw [List.cons_append] at h
  simp only [hcomma, h.1, h.2]
  cases splitOperands r <;> rfl

/-! Trimming (rule R73). -/

theorem trim_of_no_outer_space {s : Text} (hh : ∀ b, s.head? = some b → isSpace b = false)
    (hl : ∀ b, s.getLast? = some b → isSpace b = false) : trim s = s := by
  have hd : ∀ t : Text, (∀ b, t.head? = some b → isSpace b = false) → dropSpace t = t := by
    intro t ht
    cases t with
    | nil => rfl
    | cons c cs => simp [dropSpace, ht c rfl]
  unfold trim
  rw [hd s hh, hd s.reverse (by simpa using hl), List.reverse_reverse]

/-! Decimal numerals (rules R82, R84). -/

theorem digitValue_digitByte {d : Nat} (h : d < 10) : digitValue (digitByte d) = some d := by
  have : ∀ d < 10, digitValue (digitByte d) = some d := by decide
  exact this d h

/-- The loop writes the digits of `n` in front of what it has: reading them back from any value gives `n` and goes on. -/
theorem digitsValue_decimalLoop (fuel n : Nat) (acc : Text) (h : n < fuel) :
    ∃ k, ∀ a, digitsValue a (decimalLoop fuel n acc) = digitsValue (a * 10 ^ k + n) acc := by
  induction fuel generalizing n acc with
  | zero => omega
  | succ fuel ih =>
    have hd := digitValue_digitByte (Nat.mod_lt n (by decide : 10 > 0))
    by_cases h10 : n / 10 = 0
    · refine ⟨1, fun a => ?_⟩
      have : n % 10 = n := Nat.mod_eq_of_lt (by omega)
      simp only [decimalLoop, h10, if_true, digitsValue, hd]
      rw [this, Nat.pow_one]
    · obtain ⟨k, hk⟩ := ih (n / 10) (digitByte (n % 10) :: acc) (by omega)
      refine ⟨k + 1, fun a => ?_⟩
      simp only [decimalLoop, h10, if_false, hk, digitsValue, hd]
      congr 1
      have := Nat.div_add_mod n 10
      rw [Nat.pow_succ]
      ring_nf
      omega

/-- A decimal numeral reads back as its number. -/
theorem digitsValue_decimal (n : Nat) : digitsValue 0 (decimal n) = some n := by
  obtain ⟨k, hk⟩ := digitsValue_decimalLoop (n + 1) n [] (by omega)
  simp [decimal, hk, digitsValue]

theorem decimalLoop_ne_nil (fuel n : Nat) (acc : Text) (h : acc ≠ [] ∨ 0 < fuel) : decimalLoop fuel n acc ≠ [] := by
  induction fuel generalizing n acc with
  | zero => simpa [decimalLoop] using h
  | succ fuel ih =>
    simp only [decimalLoop]
    split
    · simp
    · exact ih _ _ (.inl (by simp))

theorem decimal_ne_nil (n : Nat) : decimal n ≠ [] := decimalLoop_ne_nil _ _ _ (.inr (by omega))

theorem mem_decimalLoop {fuel n : Nat} {acc : Text} {b : Byte} (h : b ∈ decimalLoop fuel n acc) :
    b ∈ acc ∨ ∃ d < 10, b = digitByte d := by
  induction fuel generalizing n acc with
  | zero => exact .inl h
  | succ fuel ih =>
    have hd : n % 10 < 10 := Nat.mod_lt n (by decide)
    simp only [decimalLoop] at h
    split at h
    · rcases List.mem_cons.1 h with h | h
      · exact .inr ⟨_, hd, h⟩
      · exact .inl h
    · rcases ih h with h | h
      · rcases List.mem_cons.1 h with h | h
        · exact .inr ⟨_, hd, h⟩
        · exact .inl h
      · exact .inr h

/-- A decimal numeral is made of digit bytes. -/
theorem mem_decimal {n : Nat} {b : Byte} (h : b ∈ decimal n) : ∃ d < 10, b = digitByte d := by
  rcases mem_decimalLoop h with h | h
  · simp at h
  · exact h

end Sys2Proof
end

