-- ==== Sys2Proof/Laws/Operands.lean ====
section
/-! SUPPORT. What the operand tokens of `print` read back as (rules R79 to R85), and when the immediate checks pass (rules R86 to R90). -/

namespace Sys2Proof

/-- A canonical register name resolves to its id (rules R28, R82). -/
theorem resolve_printReg : ∀ r : RegId, resolve Tables.contents (printReg r) = some r := by decide

/-- A digit byte is none of the bytes that mean something else in an operand. -/
theorem digitByte_plain {b : Byte} (h : ∃ d < 10, b = digitByte d) :
    isTokenByte b = true ∧ isParen b = false ∧ b ≠ 0x2B#8 ∧ b ≠ 0x2D#8 ∧ b ≠ 0x28#8 ∧ b ≠ 0x29#8 ∧ foldByte b = b := by
  obtain ⟨d, hd, rfl⟩ := h
  have : ∀ d < 10, isTokenByte (digitByte d) = true ∧ isParen (digitByte d) = false ∧ digitByte d ≠ 0x2B#8 ∧ digitByte d ≠ 0x2D#8 ∧
      digitByte d ≠ 0x28#8 ∧ digitByte d ≠ 0x29#8 ∧ foldByte (digitByte d) = digitByte d := by decide
  exact this d hd

theorem digitsToken_decimal (n : Nat) : digitsToken (decimal n) = some n := by
  have h := digitsValue_decimal n
  have hne := decimal_ne_nil n
  cases hd : decimal n with
  | nil => exact absurd hd hne
  | cons b bs =>
    rw [hd] at h
    exact h

/-- The canonical spelling of an integer reads back as that integer (rule R84). -/
theorem immToken_printImm (v : Int) : immToken (printImm v) = some v := by
  cases v with
  | ofNat n =>
    have h := digitsToken_decimal n
    show immToken (decimal n) = _
    cases hd : decimal n with
    | nil => exact absurd hd (decimal_ne_nil n)
    | cons b bs =>
      obtain ⟨-, -, hplus, hminus, -⟩ := digitByte_plain (mem_decimal (n := n) (b := b) (by simp [hd]))
      rw [hd] at h
      simp [immToken, hplus, hminus, h]
  | negSucc n =>
    show immToken (0x2D#8 :: decimal (n + 1)) = _
    simp [immToken, digitsToken_decimal, Int.negSucc_eq]

/-- Every byte of a canonical register name is plain: no separator, no parenthesis, no capital. -/
theorem printReg_plain : ∀ r : RegId, ∀ b ∈ printReg r, isTokenByte b = true ∧ isParen b = false ∧ foldByte b = b := by decide

theorem printImm_plain {v : Int} {b : Byte} (h : b ∈ printImm v) : isTokenByte b = true ∧ isParen b = false ∧ foldByte b = b := by
  cases v with
  | ofNat n =>
    obtain ⟨h1, h2, -, -, -, -, h3⟩ := digitByte_plain (mem_decimal (n := n) h)
    exact ⟨h1, h2, h3⟩
  | negSucc n =>
    rcases List.mem_cons.1 h with rfl | h
    · decide
    · obtain ⟨h1, h2, -, -, -, -, h3⟩ := digitByte_plain (mem_decimal h)
      exact ⟨h1, h2, h3⟩

/-- What a memory operand whose parts hold no parenthesis reads as (rule R85). -/
theorem memToken_parts (t : Tables) {I R : Text} (hI : ∀ b ∈ I, isParen b = false) (hR : ∀ b ∈ R, isParen b = false) :
    memToken t (I ++ (0x28#8 :: (R ++ [0x29#8]))) =
      match immToken I, resolve t R with
      | some offset, some base => some (offset, base)
      | _, _ => none := by
  have hp : ∀ b ∈ I, (!(b == 0x28#8)) = true := by
    intro b hb
    have := hI b hb
    simp only [isParen, Bool.or_eq_false_iff] at this
    simp [this.1]
  have hany : R.any isParen = false := by
    simpa using hR
  unfold memToken
  rw [List.dropWhile_append_of_pos hp, List.takeWhile_append_of_pos hp]
  simp only [List.dropWhile_cons, List.takeWhile_cons]
  simp [hany]
  all_goals rfl

/-- The canonical memory operand reads back as its offset and base (rule R85). -/
theorem memToken_printMem (v : Int) (r : RegId) : memToken Tables.contents (printMem v r) = some (v, r) := by
  unfold printMem
  rw [memToken_parts _ (fun b hb => (printImm_plain hb).2.1) (fun b hb => (printReg_plain r b hb).2.1)]
  simp [immToken_printImm, resolve_printReg]

theorem printMem_plain {v : Int} {r : RegId} {b : Byte} (h : b ∈ printMem v r) : isTokenByte b = true ∧ foldByte b = b := by
  simp only [printMem, List.mem_append, List.mem_cons, List.not_mem_nil, or_false] at h
  rcases h with h | rfl | h | rfl
  · exact ⟨(printImm_plain h).1, (printImm_plain h).2.2⟩
  · decide
  · exact ⟨(printReg_plain r b h).1, (printReg_plain r b h).2.2⟩
  · decide

/-! When the checks of rules R86 to R90 pass, and what they raise. -/

theorem checkRange_eq_none {c : Bool} : checkRange c = none ↔ c = true := by
  cases c <;> simp [checkRange]

theorem checkRangeThenEven_eq_none {c : Bool} {v : Int} : checkRangeThenEven c v = none ↔ (c && isEven v) = true := by
  cases c <;> cases h : isEven v <;> simp [checkRangeThenEven, h]

theorem fitsImm12_iff {v : Int} : fitsImm12 v = true ↔ -2048 ≤ v ∧ v ≤ 2047 := by simp [fitsImm12]
theorem fitsShamt_iff {v : Int} : fitsShamt v = true ↔ 0 ≤ v ∧ v ≤ 31 := by simp [fitsShamt]
theorem fitsImm13_iff {v : Int} : fitsImm13 v = true ↔ -4096 ≤ v ∧ v ≤ 4095 := by simp [fitsImm13]
theorem fitsImm20_iff {v : Int} : fitsImm20 v = true ↔ -524288 ≤ v ∧ v ≤ 1048575 := by simp [fitsImm20]
theorem fitsImm21_iff {v : Int} : fitsImm21 v = true ↔ -1048576 ≤ v ∧ v ≤ 1048575 := by simp [fitsImm21]
theorem isEven_iff {v : Int} : isEven v = true ↔ v % 2 = 0 := by simp [isEven]

theorem checkRange_in {c : Bool} (h : c = true) : checkRange c = none := by simp [checkRange, h]
theorem checkRange_out {c : Bool} (h : ¬ c = true) : checkRange c = some .immediateOutOfRange := by simp [checkRange, h]
theorem checkRangeThenEven_in {c : Bool} {v : Int} (h : c = true) (he : v % 2 = 0) : checkRangeThenEven c v = none := by
  simp [checkRangeThenEven, h, isEven_iff.2 he]
theorem checkRangeThenEven_odd {c : Bool} {v : Int} (h : c = true) (he : v % 2 = 1) :
    checkRangeThenEven c v = some .immediateMisaligned := by
  have : isEven v = false := by simp [isEven, he]
  simp [checkRangeThenEven, h, this]
theorem checkRangeThenEven_out {c : Bool} {v : Int} (h : ¬ c = true) : checkRangeThenEven c v = some .immediateOutOfRange := by
  simp [checkRangeThenEven, h]

end Sys2Proof
end

