-- ==== Sys2Proof/Laws/PerInstr.lean ====
section
/-! SUPPORT. One lemma per constructor of Instr: the encode call's immediate check passes exactly on the well-formed instructions
(rules R70, R86 to R90). -/

namespace Sys2Proof.Laws.ImmediateCheck

/-- `check_immediate` raises nothing exactly when the instruction is well formed. -/
def Statement (i : Instr) : Prop := i.checkImmediate = none ↔ i.WellFormed

theorem add (rd rs1 rs2 : RegId) : Statement (.add rd rs1 rs2) := ⟨fun _ => rfl, fun _ => rfl⟩
theorem sub (rd rs1 rs2 : RegId) : Statement (.sub rd rs1 rs2) := ⟨fun _ => rfl, fun _ => rfl⟩
theorem sll (rd rs1 rs2 : RegId) : Statement (.sll rd rs1 rs2) := ⟨fun _ => rfl, fun _ => rfl⟩
theorem slt (rd rs1 rs2 : RegId) : Statement (.slt rd rs1 rs2) := ⟨fun _ => rfl, fun _ => rfl⟩
theorem sltu (rd rs1 rs2 : RegId) : Statement (.sltu rd rs1 rs2) := ⟨fun _ => rfl, fun _ => rfl⟩
theorem xor (rd rs1 rs2 : RegId) : Statement (.xor rd rs1 rs2) := ⟨fun _ => rfl, fun _ => rfl⟩
theorem srl (rd rs1 rs2 : RegId) : Statement (.srl rd rs1 rs2) := ⟨fun _ => rfl, fun _ => rfl⟩
theorem sra (rd rs1 rs2 : RegId) : Statement (.sra rd rs1 rs2) := ⟨fun _ => rfl, fun _ => rfl⟩
theorem or (rd rs1 rs2 : RegId) : Statement (.or rd rs1 rs2) := ⟨fun _ => rfl, fun _ => rfl⟩
theorem and (rd rs1 rs2 : RegId) : Statement (.and rd rs1 rs2) := ⟨fun _ => rfl, fun _ => rfl⟩
theorem addi (rd rs1 : RegId) (imm : Int) : Statement (.addi rd rs1 imm) := checkRange_eq_none
theorem slti (rd rs1 : RegId) (imm : Int) : Statement (.slti rd rs1 imm) := checkRange_eq_none
theorem sltiu (rd rs1 : RegId) (imm : Int) : Statement (.sltiu rd rs1 imm) := checkRange_eq_none
theorem xori (rd rs1 : RegId) (imm : Int) : Statement (.xori rd rs1 imm) := checkRange_eq_none
theorem ori (rd rs1 : RegId) (imm : Int) : Statement (.ori rd rs1 imm) := checkRange_eq_none
theorem andi (rd rs1 : RegId) (imm : Int) : Statement (.andi rd rs1 imm) := checkRange_eq_none
theorem lb (rd rs1 : RegId) (offset : Int) : Statement (.lb rd rs1 offset) := checkRange_eq_none
theorem lh (rd rs1 : RegId) (offset : Int) : Statement (.lh rd rs1 offset) := checkRange_eq_none
theorem lw (rd rs1 : RegId) (offset : Int) : Statement (.lw rd rs1 offset) := checkRange_eq_none
theorem lbu (rd rs1 : RegId) (offset : Int) : Statement (.lbu rd rs1 offset) := checkRange_eq_none
theorem lhu (rd rs1 : RegId) (offset : Int) : Statement (.lhu rd rs1 offset) := checkRange_eq_none
theorem jalr (rd rs1 : RegId) (offset : Int) : Statement (.jalr rd rs1 offset) := checkRange_eq_none
theorem slli (rd rs1 : RegId) (shamt : Int) : Statement (.slli rd rs1 shamt) := checkRange_eq_none
theorem srli (rd rs1 : RegId) (shamt : Int) : Statement (.srli rd rs1 shamt) := checkRange_eq_none
theorem srai (rd rs1 : RegId) (shamt : Int) : Statement (.srai rd rs1 shamt) := checkRange_eq_none
theorem sb (rs2 rs1 : RegId) (offset : Int) : Statement (.sb rs2 rs1 offset) := checkRange_eq_none
theorem sh (rs2 rs1 : RegId) (offset : Int) : Statement (.sh rs2 rs1 offset) := checkRange_eq_none
theorem sw (rs2 rs1 : RegId) (offset : Int) : Statement (.sw rs2 rs1 offset) := checkRange_eq_none
theorem beq (rs1 rs2 : RegId) (offset : Int) : Statement (.beq rs1 rs2 offset) := checkRangeThenEven_eq_none
theorem bne (rs1 rs2 : RegId) (offset : Int) : Statement (.bne rs1 rs2 offset) := checkRangeThenEven_eq_none
theorem blt (rs1 rs2 : RegId) (offset : Int) : Statement (.blt rs1 rs2 offset) := checkRangeThenEven_eq_none
theorem bge (rs1 rs2 : RegId) (offset : Int) : Statement (.bge rs1 rs2 offset) := checkRangeThenEven_eq_none
theorem bltu (rs1 rs2 : RegId) (offset : Int) : Statement (.bltu rs1 rs2 offset) := checkRangeThenEven_eq_none
theorem bgeu (rs1 rs2 : RegId) (offset : Int) : Statement (.bgeu rs1 rs2 offset) := checkRangeThenEven_eq_none
theorem lui (rd : RegId) (imm : Int) : Statement (.lui rd imm) := checkRange_eq_none
theorem auipc (rd : RegId) (imm : Int) : Statement (.auipc rd imm) := checkRange_eq_none
theorem jal (rd : RegId) (offset : Int) : Statement (.jal rd offset) := checkRangeThenEven_eq_none
theorem ecall : Statement .ecall := ⟨fun _ => rfl, fun _ => rfl⟩
theorem ebreak : Statement .ebreak := ⟨fun _ => rfl, fun _ => rfl⟩
theorem fenceTso : Statement .fenceTso := ⟨fun _ => rfl, fun _ => rfl⟩
theorem pause : Statement .pause := ⟨fun _ => rfl, fun _ => rfl⟩

end Sys2Proof.Laws.ImmediateCheck

namespace Sys2Proof

/-- The check, for every instruction. -/
theorem checkImmediate_eq_none (i : Instr) : i.checkImmediate = none ↔ i.WellFormed := by
  cases i
  case add rd rs1 rs2 => exact Laws.ImmediateCheck.add rd rs1 rs2
  case sub rd rs1 rs2 => exact Laws.ImmediateCheck.sub rd rs1 rs2
  case sll rd rs1 rs2 => exact Laws.ImmediateCheck.sll rd rs1 rs2
  case slt rd rs1 rs2 => exact Laws.ImmediateCheck.slt rd rs1 rs2
  case sltu rd rs1 rs2 => exact Laws.ImmediateCheck.sltu rd rs1 rs2
  case xor rd rs1 rs2 => exact Laws.ImmediateCheck.xor rd rs1 rs2
  case srl rd rs1 rs2 => exact Laws.ImmediateCheck.srl rd rs1 rs2
  case sra rd rs1 rs2 => exact Laws.ImmediateCheck.sra rd rs1 rs2
  case or rd rs1 rs2 => exact Laws.ImmediateCheck.or rd rs1 rs2
  case and rd rs1 rs2 => exact Laws.ImmediateCheck.and rd rs1 rs2
  case addi rd rs1 imm => exact Laws.ImmediateCheck.addi rd rs1 imm
  case slti rd rs1 imm => exact Laws.ImmediateCheck.slti rd rs1 imm
  case sltiu rd rs1 imm => exact Laws.ImmediateCheck.sltiu rd rs1 imm
  case xori rd rs1 imm => exact Laws.ImmediateCheck.xori rd rs1 imm
  case ori rd rs1 imm => exact Laws.ImmediateCheck.ori rd rs1 imm
  case andi rd rs1 imm => exact Laws.ImmediateCheck.andi rd rs1 imm
  case lb rd rs1 offset => exact Laws.ImmediateCheck.lb rd rs1 offset
  case lh rd rs1 offset => exact Laws.ImmediateCheck.lh rd rs1 offset
  case lw rd rs1 offset => exact Laws.ImmediateCheck.lw rd rs1 offset
  case lbu rd rs1 offset => exact Laws.ImmediateCheck.lbu rd rs1 offset
  case lhu rd rs1 offset => exact Laws.ImmediateCheck.lhu rd rs1 offset
  case jalr rd rs1 offset => exact Laws.ImmediateCheck.jalr rd rs1 offset
  case slli rd rs1 shamt => exact Laws.ImmediateCheck.slli rd rs1 shamt
  case srli rd rs1 shamt => exact Laws.ImmediateCheck.srli rd rs1 shamt
  case srai rd rs1 shamt => exact Laws.ImmediateCheck.srai rd rs1 shamt
  case sb rs2 rs1 offset => exact Laws.ImmediateCheck.sb rs2 rs1 offset
  case sh rs2 rs1 offset => exact Laws.ImmediateCheck.sh rs2 rs1 offset
  case sw rs2 rs1 offset => exact Laws.ImmediateCheck.sw rs2 rs1 offset
  case beq rs1 rs2 offset => exact Laws.ImmediateCheck.beq rs1 rs2 offset
  case bne rs1 rs2 offset => exact Laws.ImmediateCheck.bne rs1 rs2 offset
  case blt rs1 rs2 offset => exact Laws.ImmediateCheck.blt rs1 rs2 offset
  case bge rs1 rs2 offset => exact Laws.ImmediateCheck.bge rs1 rs2 offset
  case bltu rs1 rs2 offset => exact Laws.ImmediateCheck.bltu rs1 rs2 offset
  case bgeu rs1 rs2 offset => exact Laws.ImmediateCheck.bgeu rs1 rs2 offset
  case lui rd imm => exact Laws.ImmediateCheck.lui rd imm
  case auipc rd imm => exact Laws.ImmediateCheck.auipc rd imm
  case jal rd offset => exact Laws.ImmediateCheck.jal rd offset
  case ecall => exact Laws.ImmediateCheck.ecall
  case ebreak => exact Laws.ImmediateCheck.ebreak
  case fenceTso => exact Laws.ImmediateCheck.fenceTso
  case pause => exact Laws.ImmediateCheck.pause

end Sys2Proof
end

