-- ==== Sys2Proof/Laws/State.lean ====
section
/-! SUPPORT. One lemma per field per update of State, and the small lemmas of the accessors. -/

namespace Sys2Proof.Machine

@[simp] theorem State.setOutputs_tables (s : State) (w : Word) (e : BitVec 3) : (s.setOutputs w e).tables = s.tables := rfl
@[simp] theorem State.setOutputs_inText (s : State) (w : Word) (e : BitVec 3) : (s.setOutputs w e).inText = s.inText := rfl
@[simp] theorem State.setOutputs_inLen (s : State) (w : Word) (e : BitVec 3) : (s.setOutputs w e).inLen = s.inLen := rfl
@[simp] theorem State.setOutputs_outWord (s : State) (w : Word) (e : BitVec 3) : (s.setOutputs w e).outWord = w := rfl
@[simp] theorem State.setOutputs_outErr (s : State) (w : Word) (e : BitVec 3) : (s.setOutputs w e).outErr = e := rfl
@[simp] theorem State.setOutputs_input (s : State) (w : Word) (e : BitVec 3) : (s.setOutputs w e).input = s.input := rfl

@[simp] theorem State.withInput_tables (s : State) (T : Text) : (s.withInput T).tables = s.tables := rfl
@[simp] theorem State.withInput_inText (s : State) (T : Text) : (s.withInput T).inText = T ++ s.inText.drop T.length := rfl
@[simp] theorem State.withInput_inLen (s : State) (T : Text) : (s.withInput T).inLen = T.length := rfl
@[simp] theorem State.withInput_outWord (s : State) (T : Text) : (s.withInput T).outWord = s.outWord := rfl
@[simp] theorem State.withInput_outErr (s : State) (T : Text) : (s.withInput T).outErr = s.outErr := rfl

/-- The text written to the port is the text read from it (rule R22). -/
@[simp] theorem State.withInput_input (s : State) (T : Text) : (s.withInput T).input = T := by
  simp [State.input]

@[simp] theorem State.answer_tables (s : State) (r : Except ErrorKind Word) : (s.answer r).tables = s.tables := by cases r <;> rfl
@[simp] theorem State.answer_inText (s : State) (r : Except ErrorKind Word) : (s.answer r).inText = s.inText := by cases r <;> rfl
@[simp] theorem State.answer_inLen (s : State) (r : Except ErrorKind Word) : (s.answer r).inLen = s.inLen := by cases r <;> rfl
@[simp] theorem State.answer_input (s : State) (r : Except ErrorKind Word) : (s.answer r).input = s.input := by cases r <;> rfl
@[simp] theorem State.answer_ok_outWord (s : State) (w : Word) : (s.answer (.ok w)).outWord = w := rfl
@[simp] theorem State.answer_ok_outErr (s : State) (w : Word) : (s.answer (.ok w)).outErr = 0#3 := rfl
@[simp] theorem State.answer_error_outWord (s : State) (k : ErrorKind) : (s.answer (.error k)).outWord = 0#32 := rfl
@[simp] theorem State.answer_error_outErr (s : State) (k : ErrorKind) : (s.answer (.error k)).outErr = k.code := rfl

/-- The outputs are driven whole: an earlier answer leaves no trace (rule R34). -/
@[simp] theorem State.answer_answer (s : State) (q r : Except ErrorKind Word) : (s.answer q).answer r = s.answer r := by
  cases q <;> cases r <;> rfl

/-- `setOutputs` with the codes of rule R400 is `answer`. -/
theorem State.setOutputs_okCode (s : State) (w : Word) : s.setOutputs w okCode = s.answer (.ok w) := rfl

theorem State.setOutputs_code (s : State) (k : ErrorKind) : s.setOutputs 0#32 k.code = s.answer (.error k) := rfl

@[simp] theorem State.withInput_loaded (s : State) (T : Text) : (s.withInput T).TablesLoaded ↔ s.TablesLoaded := Iff.rfl

@[simp] theorem State.answer_loaded (s : State) (r : Except ErrorKind Word) : (s.answer r).TablesLoaded ↔ s.TablesLoaded := by
  simp [State.TablesLoaded]

@[simp] theorem State.answer_fits (s : State) (r : Except ErrorKind Word) : (s.answer r).InputFits ↔ s.InputFits := by
  simp [State.InputFits]

theorem State.answer_ready {s : State} (r : Except ErrorKind Word) (h : s.Ready) : (s.answer r).Ready :=
  ⟨(s.answer_loaded r).2 h.loaded, (s.answer_fits r).2 h.fits⟩

/-- A text written to the port fits it (rule R22). -/
theorem State.withInput_fits (s : State) (T : Text) : (s.withInput T).InputFits := by
  simp [State.InputFits]

theorem State.withInput_ready {s : State} (T : Text) (h : s.TablesLoaded) : (s.withInput T).Ready :=
  ⟨h, s.withInput_fits T⟩

theorem State.loadedTables_of_loaded {s : State} (h : s.TablesLoaded) : s.loadedTables = some Tables.contents :=
  (if_pos h).trans (congrArg some h)

theorem State.loadedTables_of_not_loaded {s : State} (h : ¬ s.TablesLoaded) : s.loadedTables = none :=
  if_neg h

/-- The codes of rule R400 tell the error kinds apart, and none of them is 0. -/
theorem ErrorKind_code_ne_zero (k : ErrorKind) : k.code ≠ 0#3 := by cases k <;> decide

theorem ErrorKind_code_injective {j k : ErrorKind} (h : j.code = k.code) : j = k := by
  cases j <;> cases k <;> first | rfl | (exact absurd h (by decide))

/-- A consumer reads the word of a call that ends without an error (rules R22, R402). -/
@[simp] theorem State.answer_ok_sample (s : State) (w : Word) : (s.answer (.ok w)).sample = (0#3, some w) := rfl

/-- Of a call that ends with an error a consumer reads the code alone (rule R402). -/
@[simp] theorem State.answer_error_sample (s : State) (k : ErrorKind) : (s.answer (.error k)).sample = (k.code, none) := by
  cases k <;> rfl

/-- An answer leaves nothing of the outputs before it (rule R34). -/
theorem State.answer_of_outputs (s : State) (w : Word) (e : BitVec 3) (r : Except ErrorKind Word) :
    (s.setOutputs w e).answer r = s.answer r := by
  cases r <;> rfl

/-- Different answers leave different states. -/
theorem State.answer_injective {s : State} {q r : Except ErrorKind Word} (h : s.answer q = s.answer r) : q = r := by
  have hw := congrArg State.outWord h
  have he := congrArg State.outErr h
  cases q with
  | ok w =>
    cases r with
    | ok v => exact congrArg Except.ok hw
    | error k => exact absurd he.symm (ErrorKind_code_ne_zero k)
  | error j =>
    cases r with
    | ok v => exact absurd he (ErrorKind_code_ne_zero j)
    | error k => exact congrArg Except.error (ErrorKind_code_injective he)

end Sys2Proof.Machine
end

