-- ==== Sys2Proof/Laws/Ops.lean ====
section
/-! SUPPORT. What each shared operation of the machine can do, said once: driving a word, raising an error, the back half of a call, the
fetch, and the shape of every meaning. -/

namespace Sys2Proof.Machine

/-- `driveWord` answers the word (rule R22). -/
theorem driveWord_eq (w : Word) (s : State) : driveWord w s = .next (s.answer (.ok w)) := rfl

/-- `raise` answers the error kind (rule R402). -/
theorem raise_eq (k : ErrorKind) (s : State) : raise k s = .next (s.answer (.error k)) := rfl

/-- The back half of a call whose immediate fails a check (rule R70). -/
theorem encodeCall_error {s : State} {k : ErrorKind} {word : Tables → Option Word} (h : s.TablesLoaded) :
    encodeCall (some k) word s = .next (s.answer (.error k)) := by
  simp [encodeCall, State.loadedTables_of_loaded h, raise_eq]

/-- The back half of a call whose immediate passes (rule R70). -/
theorem encodeCall_ok {s : State} {w : Word} {word : Tables → Option Word} (h : s.TablesLoaded) (hw : word Tables.contents = some w) :
    encodeCall none word s = .next (s.answer (.ok w)) := by
  simp [encodeCall, State.loadedTables_of_loaded h, hw, driveWord_eq]

/-- The back half of a call outside the spec (rule R451). -/
theorem encodeCall_not_loaded {s : State} (check : Option ErrorKind) (word : Tables → Option Word) (h : ¬ s.TablesLoaded) :
    encodeCall check word s = .refused .tablesNotLoaded := by
  simp [encodeCall, State.loadedTables_of_not_loaded h]

/-- Every meaning is one back half of a call: its instruction's own check, and a lookup of the tables that finds its instruction's word
when they hold their contents. -/
theorem exec_shape (i : Instr) :
    ∃ word : Tables → Option Word, (∀ s, exec i s = encodeCall i.checkImmediate word s) ∧ word Tables.contents = some (encode i) := by
  cases i <;> exact ⟨_, fun _ => rfl, rfl⟩

/-- `fetch` within the spec is `parse` on the input text (rule R70). -/
theorem fetch_ready {s : State} (h : s.Ready) :
    fetch s =
      match parse Tables.contents s.input with
      | .error k => .error k
      | .ok i => .instr i := by
  have hf : ¬ s.inText.length < s.inLen := Nat.not_lt.2 h.fits
  simp only [fetch, hf, if_false, State.loadedTables_of_loaded h.loaded]
  all_goals rfl

/-- `fetch` refuses exactly outside the spec. -/
theorem fetch_not_fits {s : State} (h : ¬ s.InputFits) : fetch s = .refused .inputBeyondCapacity := by
  simp [fetch, Nat.not_le.1 h]

theorem fetch_not_loaded {s : State} (hf : s.InputFits) (h : ¬ s.TablesLoaded) : fetch s = .refused .tablesNotLoaded := by
  have hf' : ¬ s.inText.length < s.inLen := Nat.not_lt.2 hf
  simp [fetch, hf', State.loadedTables_of_not_loaded h]

end Sys2Proof.Machine
end

