-- ==== Sys2Proof/Tests/Slice0.lean ====
section
/-! SUPPORT. Own tests. Every expected value is from spec/: the vectors of 95_test_vectors.md (named in the comment behind the test), or
the rule the comment names. Behind the tests stand the witnesses: concrete states and operands that meet the hypotheses of the
obligations, clause by clause, at the boundaries of the ranges. -/

namespace Sys2Proof.Tests

open Sys2Proof.Machine Sys2Proof.Rules

/-- The block after power-up with one line on its input port. -/
def line (cs : List Char) : State := State.reset.withInput (ascii cs)

/-- What a consumer samples after one call on that line. -/
def answerTo (cs : List Char) : Option (BitVec 3 × Option Word) :=
  match step (line cs) with
  | .next s => some s.sample
  | .fault _ => none
  | .refused _ => none

theorem line_ready (cs : List Char) : (line cs).Ready := State.withInput_ready _ rfl

/-! WellFormed refuses an ill-formed term at each check (rules R86 to R90), and takes its neighbour. -/

theorem test_wf_imm12_high : ¬ (Instr.addi 1#5 2#5 2048).WellFormed ∧ (Instr.addi 1#5 2#5 2047).WellFormed := by decide
theorem test_wf_imm12_low : ¬ (Instr.lw 1#5 2#5 (-2049)).WellFormed ∧ (Instr.lw 1#5 2#5 (-2048)).WellFormed := by decide
theorem test_wf_store : ¬ (Instr.sb 1#5 2#5 2048).WellFormed ∧ (Instr.sb 1#5 2#5 (-2048)).WellFormed := by decide
theorem test_wf_shamt_high : ¬ (Instr.slli 1#5 1#5 32).WellFormed ∧ (Instr.slli 1#5 1#5 31).WellFormed := by decide
theorem test_wf_shamt_negative : ¬ (Instr.srai 1#5 1#5 (-1)).WellFormed ∧ (Instr.srai 1#5 1#5 0).WellFormed := by decide
theorem test_wf_branch_range : ¬ (Instr.beq 1#5 2#5 4096).WellFormed ∧ (Instr.beq 1#5 2#5 (-4096)).WellFormed := by decide
theorem test_wf_branch_odd : ¬ (Instr.bgeu 1#5 2#5 4095).WellFormed ∧ (Instr.bgeu 1#5 2#5 4094).WellFormed := by decide
theorem test_wf_upper_high : ¬ (Instr.lui 1#5 1048576).WellFormed ∧ (Instr.lui 1#5 1048575).WellFormed := by decide
theorem test_wf_upper_low : ¬ (Instr.auipc 1#5 (-524289)).WellFormed ∧ (Instr.auipc 1#5 (-524288)).WellFormed := by decide
theorem test_wf_jump_range : ¬ (Instr.jal 1#5 1048576).WellFormed ∧ (Instr.jal 1#5 (-1048576)).WellFormed := by decide
theorem test_wf_jump_odd : ¬ (Instr.jal 1#5 1048575).WellFormed ∧ (Instr.jal 1#5 1048574).WellFormed := by decide

/-! Decoding: one word for every constructor, its fields written out as the vector writes them. -/

theorem test_decode_add : decodeWord 0b0000000_00011_00010_000_00001_0110011#32 = .ok (.add 1#5 2#5 3#5) := by decide -- VR1 `add x1, x2, x3`
theorem test_decode_sub : decodeWord 0b0100000_01100_01011_000_01010_0110011#32 = .ok (.sub 10#5 11#5 12#5) := by decide -- VR2 `sub a0, a1, a2`
theorem test_decode_sll : decodeWord 0b0000000_00111_00110_001_00101_0110011#32 = .ok (.sll 5#5 6#5 7#5) := by decide -- VR3 `sll t0, t1, t2`
theorem test_decode_slt : decodeWord 0b0000000_10011_10010_010_01001_0110011#32 = .ok (.slt 9#5 18#5 19#5) := by decide -- VR4 `slt s1, s2, s3`
theorem test_decode_sltu : decodeWord 0b0000000_01111_01110_011_01101_0110011#32 = .ok (.sltu 13#5 14#5 15#5) := by decide -- VR5 `sltu a3, a4, a5`
theorem test_decode_xor : decodeWord 0b0000000_00111_00110_100_00101_0110011#32 = .ok (.xor 5#5 6#5 7#5) := by decide -- VR6 `xor x5, x6, x7`
theorem test_decode_srl : decodeWord 0b0000000_01010_01001_101_01000_0110011#32 = .ok (.srl 8#5 9#5 10#5) := by decide -- VR7 `srl x8, x9, x10`
theorem test_decode_sra : decodeWord 0b0100000_01010_01001_101_01000_0110011#32 = .ok (.sra 8#5 9#5 10#5) := by decide -- VR8 `sra x8, x9, x10`
theorem test_decode_or : decodeWord 0b0000000_01101_01100_110_01011_0110011#32 = .ok (.or 11#5 12#5 13#5) := by decide -- VR9 `or x11, x12, x13`
theorem test_decode_and : decodeWord 0b0000000_10000_01111_111_01110_0110011#32 = .ok (.and 14#5 15#5 16#5) := by decide -- VR10 `and x14, x15, x16`
theorem test_decode_addi : decodeWord 0b000000001010_00010_000_00001_0010011#32 = .ok (.addi 1#5 2#5 10) := by decide -- VIA1 `addi x1, x2, 10`
theorem test_decode_slti : decodeWord 0b111111111111_00110_010_00101_0010011#32 = .ok (.slti 5#5 6#5 (-1)) := by decide -- VIA2 `slti t0, t1, -1`
theorem test_decode_sltiu : decodeWord 0b000000000001_01010_011_01010_0010011#32 = .ok (.sltiu 10#5 10#5 1) := by decide -- VIA3 `sltiu a0, a0, 1`
theorem test_decode_xori : decodeWord 0b111111111111_01011_100_01011_0010011#32 = .ok (.xori 11#5 11#5 (-1)) := by decide -- VIA4 `xori a1, a1, -1`
theorem test_decode_ori : decodeWord 0b011111111111_00010_110_00010_0010011#32 = .ok (.ori 2#5 2#5 2047) := by decide -- VIA5 `ori sp, sp, 2047`
theorem test_decode_andi : decodeWord 0b100000000000_00100_111_00011_0010011#32 = .ok (.andi 3#5 4#5 (-2048)) := by decide -- VIA6 `andi gp, tp, -2048`
theorem test_decode_lb : decodeWord 0b000000000000_00010_000_01010_0000011#32 = .ok (.lb 10#5 2#5 0) := by decide -- VIL1 `lb a0, 0(sp)`
theorem test_decode_lh : decodeWord 0b111111111110_01000_001_01011_0000011#32 = .ok (.lh 11#5 8#5 (-2)) := by decide -- VIL2 `lh a1, -2(s0)`
theorem test_decode_lw : decodeWord 0b000000001010_00010_010_00001_0000011#32 = .ok (.lw 1#5 2#5 10) := by decide -- VIL3 `lw x1, 10(x2)`
theorem test_decode_lbu : decodeWord 0b011111111111_00110_100_00101_0000011#32 = .ok (.lbu 5#5 6#5 2047) := by decide -- VIL4 `lbu t0, 2047(t1)`
theorem test_decode_lhu : decodeWord 0b100000000000_00111_101_00110_0000011#32 = .ok (.lhu 6#5 7#5 (-2048)) := by decide -- VIL5 `lhu t1, -2048(t2)`
theorem test_decode_jalr : decodeWord 0b000000000000_00101_000_00001_1100111#32 = .ok (.jalr 1#5 5#5 0) := by decide -- VIL6 `jalr ra, 0(t0)`
theorem test_decode_slli : decodeWord 0b0000000_00011_01010_001_01010_0010011#32 = .ok (.slli 10#5 10#5 3) := by decide -- VIS1 `slli a0, a0, 3`
theorem test_decode_srli : decodeWord 0b0000000_11111_01100_101_01011_0010011#32 = .ok (.srli 11#5 12#5 31) := by decide -- VIS2 `srli a1, a2, 31`
theorem test_decode_srai : decodeWord 0b0100000_00001_01110_101_01101_0010011#32 = .ok (.srai 13#5 14#5 1) := by decide -- VIS3 `srai a3, a4, 1`
theorem test_decode_sb : decodeWord 0b0000000_01010_00010_000_00000_0100011#32 = .ok (.sb 10#5 2#5 0) := by decide -- VS1 `sb a0, 0(sp)`
theorem test_decode_sh : decodeWord 0b1111111_01011_01000_001_11110_0100011#32 = .ok (.sh 11#5 8#5 (-2)) := by decide -- VS2 `sh a1, -2(fp)`
theorem test_decode_sw : decodeWord 0b0000000_00001_00010_010_01010_0100011#32 = .ok (.sw 1#5 2#5 10) := by decide -- VS3 `sw x1, 10(x2)`
theorem test_decode_beq : decodeWord 0b0_000000_00010_00001_000_0100_0_1100011#32 = .ok (.beq 1#5 2#5 8) := by decide -- VB1 `beq x1, x2, 8`
theorem test_decode_bne : decodeWord 0b1_111111_00000_01010_001_1110_1_1100011#32 = .ok (.bne 10#5 0#5 (-4)) := by decide -- VB2 `bne a0, zero, -4`
theorem test_decode_blt : decodeWord 0b0_111111_00110_00101_100_1111_1_1100011#32 = .ok (.blt 5#5 6#5 4094) := by decide -- VB3 `blt t0, t1, 4094`
theorem test_decode_bge : decodeWord 0b1_000000_01001_01000_101_0000_0_1100011#32 = .ok (.bge 8#5 9#5 (-4096)) := by decide -- VB4 `bge s0, s1, -4096`
theorem test_decode_bltu : decodeWord 0b0_000000_01011_01010_110_0001_0_1100011#32 = .ok (.bltu 10#5 11#5 2) := by decide -- VB5 `bltu a0, a1, 2`
theorem test_decode_bgeu : decodeWord 0b0_000000_11110_11111_111_0000_1_1100011#32 = .ok (.bgeu 31#5 30#5 2048) := by decide -- VB6 `bgeu x31, x30, 2048`
theorem test_decode_lui : decodeWord 0b00000000000000000001_00001_0110111#32 = .ok (.lui 1#5 1) := by decide -- VU1 `lui x1, 1`
theorem test_decode_auipc : decodeWord 0b00000000000000000000_00001_0010111#32 = .ok (.auipc 1#5 0) := by decide -- VU2 `auipc ra, 0`
theorem test_decode_jal : decodeWord 0b0_1111101000_0_00000000_00001_1101111#32 = .ok (.jal 1#5 2000) := by decide -- VJ1 `jal x1, 2000`
theorem test_decode_ecall : decodeWord 0b00000000000000000000000001110011#32 = .ok .ecall := by decide -- VF1 `ecall`
theorem test_decode_ebreak : decodeWord 0b00000000000100000000000001110011#32 = .ok .ebreak := by decide -- VF2 `ebreak`
theorem test_decode_fenceTso : decodeWord 0b10000011001100000000000000001111#32 = .ok .fenceTso := by decide -- VF3 `fence.tso`
theorem test_decode_pause : decodeWord 0b00000001000000000000000000001111#32 = .ok .pause := by decide -- VF4 `pause`

/-! Words of no row are refused by name (rules R104 to R113). -/

theorem test_reject_opcode : decodeWord 0x00000000#32 = .error .unknownOpcode ∧ decodeWord 0xFFFFFFFF#32 = .error .unknownOpcode := by decide
theorem test_reject_funct7 : decodeWord 0b0000001_00011_00010_000_00001_0110011#32 = .error .unknownFunct := by decide
theorem test_reject_shift : decodeWord 0b0000001_00000_00001_001_00001_0010011#32 = .error .unknownFunct := by decide
theorem test_reject_branch : decodeWord 0b0_000000_00010_00001_010_0100_0_1100011#32 = .error .unknownFunct := by decide
theorem test_reject_load : decodeWord 0b000000000000_00010_011_00001_0000011#32 = .error .unknownFunct := by decide
theorem test_reject_fence : decodeWord 0x0FF0000F#32 = .error .unknownFixedWord := by decide
theorem test_reject_system : decodeWord 0x30200073#32 = .error .unknownFixedWord := by decide

/-! One call per instruction, end to end. -/

theorem test_step_add : answerTo "add x1, x2, x3".toList = some (0#3, some 0x003100B3#32) := by decide -- VR1
theorem test_step_sub : answerTo "sub a0, a1, a2".toList = some (0#3, some 0x40C58533#32) := by decide -- VR2
theorem test_step_sll : answerTo "sll t0, t1, t2".toList = some (0#3, some 0x007312B3#32) := by decide -- VR3
theorem test_step_slt : answerTo "slt s1, s2, s3".toList = some (0#3, some 0x013924B3#32) := by decide -- VR4
theorem test_step_sltu : answerTo "sltu a3, a4, a5".toList = some (0#3, some 0x00F736B3#32) := by decide -- VR5
theorem test_step_xor : answerTo "xor x5, x6, x7".toList = some (0#3, some 0x007342B3#32) := by decide -- VR6
theorem test_step_srl : answerTo "srl x8, x9, x10".toList = some (0#3, some 0x00A4D433#32) := by decide -- VR7
theorem test_step_sra : answerTo "sra x8, x9, x10".toList = some (0#3, some 0x40A4D433#32) := by decide -- VR8
theorem test_step_or : answerTo "or x11, x12, x13".toList = some (0#3, some 0x00D665B3#32) := by decide -- VR9
theorem test_step_and : answerTo "and x14, x15, x16".toList = some (0#3, some 0x0107F733#32) := by decide -- VR10
theorem test_step_addi : answerTo "addi x1, x2, 10".toList = some (0#3, some 0x00A10093#32) := by decide -- VIA1
theorem test_step_slti : answerTo "slti t0, t1, -1".toList = some (0#3, some 0xFFF32293#32) := by decide -- VIA2
theorem test_step_sltiu : answerTo "sltiu a0, a0, 1".toList = some (0#3, some 0x00153513#32) := by decide -- VIA3
theorem test_step_xori : answerTo "xori a1, a1, -1".toList = some (0#3, some 0xFFF5C593#32) := by decide -- VIA4
theorem test_step_ori : answerTo "ori sp, sp, 2047".toList = some (0#3, some 0x7FF16113#32) := by decide -- VIA5
theorem test_step_andi : answerTo "andi gp, tp, -2048".toList = some (0#3, some 0x80027193#32) := by decide -- VIA6
theorem test_step_lb : answerTo "lb a0, 0(sp)".toList = some (0#3, some 0x00010503#32) := by decide -- VIL1
theorem test_step_lh : answerTo "lh a1, -2(s0)".toList = some (0#3, some 0xFFE41583#32) := by decide -- VIL2
theorem test_step_lw : answerTo "lw x1, 10(x2)".toList = some (0#3, some 0x00A12083#32) := by decide -- VIL3
theorem test_step_lbu : answerTo "lbu t0, 2047(t1)".toList = some (0#3, some 0x7FF34283#32) := by decide -- VIL4
theorem test_step_lhu : answerTo "lhu t1, -2048(t2)".toList = some (0#3, some 0x8003D303#32) := by decide -- VIL5
theorem test_step_jalr : answerTo "jalr ra, 0(t0)".toList = some (0#3, some 0x000280E7#32) := by decide -- VIL6
theorem test_step_slli : answerTo "slli a0, a0, 3".toList = some (0#3, some 0x00351513#32) := by decide -- VIS1
theorem test_step_srli : answerTo "srli a1, a2, 31".toList = some (0#3, some 0x01F65593#32) := by decide -- VIS2
theorem test_step_srai : answerTo "srai a3, a4, 1".toList = some (0#3, some 0x40175693#32) := by decide -- VIS3
theorem test_step_sb : answerTo "sb a0, 0(sp)".toList = some (0#3, some 0x00A10023#32) := by decide -- VS1
theorem test_step_sh : answerTo "sh a1, -2(fp)".toList = some (0#3, some 0xFEB41F23#32) := by decide -- VS2
theorem test_step_sw : answerTo "sw x1, 10(x2)".toList = some (0#3, some 0x00112523#32) := by decide -- VS3
theorem test_step_beq : answerTo "beq x1, x2, 8".toList = some (0#3, some 0x00208463#32) := by decide -- VB1
theorem test_step_bne : answerTo "bne a0, zero, -4".toList = some (0#3, some 0xFE051EE3#32) := by decide -- VB2
theorem test_step_blt : answerTo "blt t0, t1, 4094".toList = some (0#3, some 0x7E62CFE3#32) := by decide -- VB3
theorem test_step_bge : answerTo "bge s0, s1, -4096".toList = some (0#3, some 0x80945063#32) := by decide -- VB4
theorem test_step_bltu : answerTo "bltu a0, a1, 2".toList = some (0#3, some 0x00B56163#32) := by decide -- VB5
theorem test_step_bgeu : answerTo "bgeu x31, x30, 2048".toList = some (0#3, some 0x01EFF0E3#32) := by decide -- VB6
theorem test_step_lui : answerTo "lui x1, 1".toList = some (0#3, some 0x000010B7#32) := by decide -- VU1
theorem test_step_auipc : answerTo "auipc ra, 0".toList = some (0#3, some 0x00000097#32) := by decide -- VU2
theorem test_step_jal : answerTo "jal x1, 2000".toList = some (0#3, some 0x7D0000EF#32) := by decide -- VJ1
theorem test_step_ecall : answerTo "ecall".toList = some (0#3, some 0x00000073#32) := by decide -- VF1
theorem test_step_ebreak : answerTo "ebreak".toList = some (0#3, some 0x00100073#32) := by decide -- VF2
theorem test_step_fenceTso : answerTo "fence.tso".toList = some (0#3, some 0x8330000F#32) := by decide -- VF3
theorem test_step_pause : answerTo "pause".toList = some (0#3, some 0x0100000F#32) := by decide -- VF4

/-! The delimited rendering of one word per format: the Fields column of the vectors (rule R116). -/

theorem test_render_r : renderFields 0x40C58533#32 .r = ascii "0100000 01100 01011 000 01010 0110011".toList := by decide -- VR2 `sub a0, a1, a2`
theorem test_render_iArith : renderFields 0xFFF32293#32 .iArith = ascii "111111111111 00110 010 00101 0010011".toList := by decide -- VIA2 `slti t0, t1, -1`
theorem test_render_iLoadJalr : renderFields 0xFFE41583#32 .iLoadJalr = ascii "111111111110 01000 001 01011 0000011".toList := by decide -- VIL2 `lh a1, -2(s0)`
theorem test_render_iShift : renderFields 0x40175693#32 .iShift = ascii "0100000 00001 01110 101 01101 0010011".toList := by decide -- VIS3 `srai a3, a4, 1`
theorem test_render_s : renderFields 0xFEB41F23#32 .s = ascii "1111111 01011 01000 001 11110 0100011".toList := by decide -- VS2 `sh a1, -2(fp)`
theorem test_render_b : renderFields 0xFE051EE3#32 .b = ascii "1 111111 00000 01010 001 1110 1 1100011".toList := by decide -- VB2 `bne a0, zero, -4`
theorem test_render_u : renderFields 0x000010B7#32 .u = ascii "00000000000000000001 00001 0110111".toList := by decide -- VU1 `lui x1, 1`
theorem test_render_j : renderFields 0x7D0000EF#32 .j = ascii "0 1111101000 0 00000000 00001 1101111".toList := by decide -- VJ1 `jal x1, 2000`
theorem test_render_fixed : renderFields 0x0100000F#32 .fixed = ascii "00000001000000000000000000001111".toList := by decide -- VF4 `pause`

/-! Errors: each kind, and the order of rule R403. -/

theorem test_empty : answerTo "".toList = some (1#3, none) := by decide -- VX1
theorem test_leading_comma : answerTo ", add x1, x2, x3".toList = some (1#3, none) := by decide -- VX4
theorem test_mnemonic_first : answerTo "foo x1,,x2".toList = some (1#3, none) := by decide -- VX5
theorem test_separator_first : answerTo "add x1,,x2".toList = some (2#3, none) := by decide -- VX6
theorem test_shape_before_range : answerTo "addi x99, x1, 5000".toList = some (2#3, none) := by decide -- VX7
theorem test_range_before_alignment : answerTo "beq x1, x2, 4097".toList = some (3#3, none) := by decide -- VB14
theorem test_odd_branch : answerTo "beq x1, x2, 4095".toList = some (4#3, none) := by decide -- VB8
theorem test_odd_jump : answerTo "jal ra, 1048575".toList = some (4#3, none) := by decide -- VJ7
theorem test_error_word : (match step (line "li a0, 5".toList) with
    | .next s => some (s.outErr, s.outWord)
    | .fault _ => none
    | .refused _ => none) = some (1#3, 0x00000000#32) := by decide -- VX10, R402
theorem test_fold_and_sign : answerTo "ADDI SP, SP, -16".toList = some (0#3, some 0xFF010113#32) := by decide -- VIA11
theorem test_tabs_and_newline : answerTo "add\tx1,\tx2,\tx3\n".toList = some (0#3, some 0x003100B3#32) := by decide -- VR18
theorem test_alias_fp : answerTo "add fp, s0, fp".toList = some (0#3, some 0x00840433#32) := by decide -- VR13
theorem test_bytes_past_in_len : ((line "ecall x0".toList).withInput (ascii "ebreak".toList)).input = ascii "ebreak".toList := by decide -- R22

/-! The tables (rules R24, R77, R104 to R114). -/

theorem test_primary_names_every_id : Tables.contents.primary.map (·.2.toNat) = List.range 32 := by decide -- R24
theorem test_family_size : Tables.contents.family.length = Config.mnemonicCount ∧ (Tables.contents.family.map (·.1)).Nodup := by decide -- R77
theorem test_table_sizes : Tables.contents.opcode.length = 37 ∧ Tables.contents.funct3.length = 34 ∧ Tables.contents.funct7.length = 13 ∧
    Tables.contents.fixed.length = 4 := by decide -- R33

/-- No word matches two rows of the opcode table: where both masks look, their values differ (rule R114). -/
theorem test_rows_disjoint :
    opcodeTable.Pairwise (fun p q => p.value &&& (p.mask &&& q.mask) ≠ q.value &&& (p.mask &&& q.mask)) := by decide

/-- The machine is fed by `withFetchWord` with the word of a table row and gives the same word back (VR2). -/
theorem test_fetch_word : (match step (State.reset.withFetchWord 32 0x40C58533) with
    | .next s => some s.sample
    | .fault _ => none
    | .refused _ => none) = some (0#3, some 0x40C58533#32) := by decide

/-! The two refusals (rule R451, 93_implementation_defined.md U8). -/

/-- A block whose tables were not loaded. -/
def unloaded : State := { State.reset with tables := { Tables.contents with fixed := [] } }

theorem test_not_loaded : step unloaded = .refused .tablesNotLoaded := rfl
theorem test_not_fits : step { State.reset with inLen := 1 } = .refused .inputBeyondCapacity := rfl

/-! Witnesses for the hypotheses of the obligations. -/

theorem witness_StepRunsTheParsedInstruction :
    (line "add x1, x2, x3".toList).Ready ∧ parse Tables.contents (line "add x1, x2, x3".toList).input = .ok (.add 1#5 2#5 3#5) ∧
    (line "add x1".toList).Ready ∧ parse Tables.contents (line "add x1".toList).input = .error .malformedOperands :=
  ⟨line_ready _, by decide, line_ready _, by decide⟩

theorem witness_RInstructionsDriveTheirWord : State.reset.TablesLoaded := rfl

theorem witness_IArithInstructionsDriveTheirWord :
    State.reset.TablesLoaded ∧ (-2048 : Int) ≤ -2048 ∧ (-2048 : Int) ≤ 2047 ∧ (-2048 : Int) ≤ 2047 ∧ (2047 : Int) ≤ 2047 := ⟨rfl, by decide⟩

theorem witness_LoadsAndJalrDriveTheirWord :
    (line "lw".toList).TablesLoaded ∧ (-2048 : Int) ≤ -2048 ∧ (-2048 : Int) ≤ 2047 ∧ (-2048 : Int) ≤ 2047 ∧ (2047 : Int) ≤ 2047 :=
  ⟨rfl, by decide⟩

theorem witness_IShiftInstructionsDriveTheirWord : State.reset.TablesLoaded ∧ (0 : Int) ≤ 0 ∧ (0 : Int) ≤ 31 ∧ (31 : Int) ≤ 31 :=
  ⟨rfl, by decide⟩

theorem witness_StoresDriveTheirWord :
    (line "sw".toList).TablesLoaded ∧ (-2048 : Int) ≤ -2048 ∧ (-2048 : Int) ≤ 2047 ∧ (-2048 : Int) ≤ 2047 ∧ (2047 : Int) ≤ 2047 :=
  ⟨rfl, by decide⟩

theorem witness_BranchesDriveTheirWord :
    State.reset.TablesLoaded ∧ (∀ v ∈ ([-4096, 0, 4094] : List Int), -4096 ≤ v ∧ v ≤ 4095 ∧ v % 2 = 0) := ⟨rfl, by decide⟩

theorem witness_UpperImmediatesDriveTheirWord :
    State.reset.TablesLoaded ∧ (∀ v ∈ ([-524288, 1048575] : List Int), -524288 ≤ v ∧ v ≤ 1048575) := ⟨rfl, by decide⟩

theorem witness_JalDrivesItsWord :
    State.reset.TablesLoaded ∧ (∀ v ∈ ([-1048576, 0, 1048574] : List Int), -1048576 ≤ v ∧ v ≤ 1048575 ∧ v % 2 = 0) := ⟨rfl, by decide⟩

theorem witness_FixedInstructionsDriveTheirWord : (line "ecall".toList).TablesLoaded := rfl

/-- Both ends of every clause: out of range on either side, and the odd values next to the bounds. -/
theorem witness_ImmediateChecksRaiseTheirError :
    State.reset.TablesLoaded ∧
    (∀ v ∈ ([-2049, 2048] : List Int), v < -2048 ∨ 2047 < v) ∧ (∀ v ∈ ([-1, 32] : List Int), v < 0 ∨ 31 < v) ∧
    (∀ v ∈ ([-524289, 1048576] : List Int), v < -524288 ∨ 1048575 < v) ∧ (∀ v ∈ ([-4097, 4096] : List Int), v < -4096 ∨ 4095 < v) ∧
    (∀ v ∈ ([-4095, 4095] : List Int), -4096 ≤ v ∧ v ≤ 4095 ∧ v % 2 = 1) ∧
    (∀ v ∈ ([-1048577, 1048576] : List Int), v < -1048576 ∨ 1048575 < v) ∧
    (∀ v ∈ ([-1048575, 1048575] : List Int), -1048576 ≤ v ∧ v ≤ 1048575 ∧ v % 2 = 1) := ⟨rfl, by decide⟩

theorem witness_ExecAnswersAWordExactlyWhenWellFormed :
    State.reset.TablesLoaded ∧ (Instr.beq 1#5 2#5 4094).WellFormed ∧ ¬ (Instr.beq 1#5 2#5 4095).WellFormed := ⟨rfl, by decide, by decide⟩

/-- What the text-level family statements ask of a line: ready, its mnemonic, its operand tokens. -/
def Reads (cs : List Char) (m : Text) (toks : List Text) : Prop :=
  (line cs).Ready ∧ (line cs).lineMnemonic = m ∧ (line cs).lineOperands = .ok toks

theorem reads_of {cs : List Char} {m : Text} {toks : List Text}
    (h : (line cs).lineMnemonic = m ∧ (line cs).lineOperands = .ok toks) : Reads cs m toks := ⟨line_ready _, h⟩

/-- Operand lists of another length meet the hypothesis of the MalformedOperands clause. -/
theorem no_three {p : Text → Text → Text → Prop} {cs : List Char} {toks : List Text} (h : (line cs).lineOperands = .ok toks)
    (hl : toks.length ≠ 3) : ∀ a b c, (line cs).lineOperands = .ok [a, b, c] → p a b c := by
  intro a b c h'
  rw [h] at h'
  cases h'
  exact absurd rfl hl

theorem no_two {p : Text → Text → Prop} {cs : List Char} {toks : List Text} (h : (line cs).lineOperands = .ok toks)
    (hl : toks.length ≠ 2) : ∀ a b, (line cs).lineOperands = .ok [a, b] → p a b := by
  intro a b h'
  rw [h] at h'
  cases h'
  exact absurd rfl hl

theorem witness_RLinesEncodeAsRuled :
    (ascii "sub".toList, 0b0100000#7, 0b000#3) ∈ rRows ∧
    Reads "sub a0, a1, a2".toList (ascii "sub".toList) [ascii "a0".toList, ascii "a1".toList, ascii "a2".toList] ∧
    resolve Tables.contents (ascii "a0".toList) = some 10#5 ∧
    resolve Tables.contents (ascii "a1".toList) = some 11#5 ∧
    resolve Tables.contents (ascii "a2".toList) = some 12#5 :=
  ⟨by decide, reads_of (by decide), by decide, by decide, by decide⟩

theorem witness_RLinesEncodeAsRuled_malformed :
    Reads "add x1, x2".toList (ascii "add".toList) [ascii "x1".toList, ascii "x2".toList] ∧
    (∀ a b c, (line "add x1, x2".toList).lineOperands = .ok [a, b, c] → resolve Tables.contents a = none ∨ resolve Tables.contents b = none ∨ resolve Tables.contents c = none) ∧
    Reads "add x1, x2, x32".toList (ascii "add".toList) [ascii "x1".toList, ascii "x2".toList, ascii "x32".toList] ∧ resolve Tables.contents (ascii "x32".toList) = none :=
  ⟨reads_of (by decide), no_three (toks := [ascii "x1".toList, ascii "x2".toList]) (by decide) (by decide), reads_of (by decide), by decide⟩

theorem witness_IArithLinesEncodeAsRuled :
    (ascii "andi".toList, 0b111#3) ∈ iArithRows ∧
    Reads "andi gp, tp, -2048".toList (ascii "andi".toList) [ascii "gp".toList, ascii "tp".toList, ascii "-2048".toList] ∧
    resolve Tables.contents (ascii "gp".toList) = some 3#5 ∧
    resolve Tables.contents (ascii "tp".toList) = some 4#5 ∧
    immToken (ascii "-2048".toList) = some (-2048) ∧
    immToken (ascii "2047".toList) = some 2047 ∧
    immToken (ascii "2048".toList) = some 2048 ∧
    immToken (ascii "-2049".toList) = some (-2049) :=
  ⟨by decide, reads_of (by decide), by decide, by decide, by decide, by decide, by decide, by decide⟩

theorem witness_IArithLinesEncodeAsRuled_malformed :
    Reads "addi x1, x2".toList (ascii "addi".toList) [ascii "x1".toList, ascii "x2".toList] ∧
    (∀ a b c, (line "addi x1, x2".toList).lineOperands = .ok [a, b, c] → resolve Tables.contents a = none ∨ resolve Tables.contents b = none ∨ immToken c = none) ∧
    Reads "addi x1, x2, x3".toList (ascii "addi".toList) [ascii "x1".toList, ascii "x2".toList, ascii "x3".toList] ∧ immToken (ascii "x3".toList) = none :=
  ⟨reads_of (by decide), no_three (toks := [ascii "x1".toList, ascii "x2".toList]) (by decide) (by decide), reads_of (by decide), by decide⟩

theorem witness_LoadAndJalrLinesEncodeAsRuled :
    (ascii "jalr".toList, 0b000#3, 0b1100111#7) ∈ iLoadJalrRows ∧
    Reads "jalr x1, 3(x5)".toList (ascii "jalr".toList) [ascii "x1".toList, ascii "3(x5)".toList] ∧
    resolve Tables.contents (ascii "x1".toList) = some 1#5 ∧
    memToken Tables.contents (ascii "3(x5)".toList) = some (3, 5#5) ∧
    memToken Tables.contents (ascii "-2048(t2)".toList) = some (-2048, 7#5) ∧
    memToken Tables.contents (ascii "2047(t1)".toList) = some (2047, 6#5) ∧
    memToken Tables.contents (ascii "4095(x2)".toList) = some (4095, 2#5) ∧
    memToken Tables.contents (ascii "-2049(x2)".toList) = some (-2049, 2#5) :=
  ⟨by decide, reads_of (by decide), by decide, by decide, by decide, by decide, by decide, by decide⟩

theorem witness_LoadAndJalrLinesEncodeAsRuled_malformed :
    Reads "jalr t0".toList (ascii "jalr".toList) [ascii "t0".toList] ∧
    (∀ a b, (line "jalr t0".toList).lineOperands = .ok [a, b] → resolve Tables.contents a = none ∨ memToken Tables.contents b = none) ∧
    Reads "jalr x1, (x2)".toList (ascii "jalr".toList) [ascii "x1".toList, ascii "(x2)".toList] ∧ memToken Tables.contents (ascii "(x2)".toList) = none :=
  ⟨reads_of (by decide), no_two (toks := [ascii "t0".toList]) (by decide) (by decide), reads_of (by decide), by decide⟩

theorem witness_IShiftLinesEncodeAsRuled :
    (ascii "srai".toList, 0b0100000#7, 0b101#3) ∈ iShiftRows ∧
    Reads "srai x1, x1, 31".toList (ascii "srai".toList) [ascii "x1".toList, ascii "x1".toList, ascii "31".toList] ∧
    resolve Tables.contents (ascii "x1".toList) = some 1#5 ∧
    immToken (ascii "31".toList) = some 31 ∧
    immToken (ascii "0".toList) = some 0 ∧
    immToken (ascii "32".toList) = some 32 ∧
    immToken (ascii "-1".toList) = some (-1) :=
  ⟨by decide, reads_of (by decide), by decide, by decide, by decide, by decide, by decide⟩

theorem witness_IShiftLinesEncodeAsRuled_malformed :
    Reads "srai x1, x1".toList (ascii "srai".toList) [ascii "x1".toList, ascii "x1".toList] ∧
    (∀ a b c, (line "srai x1, x1".toList).lineOperands = .ok [a, b, c] → resolve Tables.contents a = none ∨ resolve Tables.contents b = none ∨ immToken c = none) ∧
    Reads "srai x1, x1, 1(x2)".toList (ascii "srai".toList) [ascii "x1".toList, ascii "x1".toList, ascii "1(x2)".toList] ∧ immToken (ascii "1(x2)".toList) = none :=
  ⟨reads_of (by decide), no_three (toks := [ascii "x1".toList, ascii "x1".toList]) (by decide) (by decide), reads_of (by decide), by decide⟩

theorem witness_StoreLinesEncodeAsRuled :
    (ascii "sw".toList, 0b010#3) ∈ sRows ∧
    Reads "sw x1, 10(x2)".toList (ascii "sw".toList) [ascii "x1".toList, ascii "10(x2)".toList] ∧
    resolve Tables.contents (ascii "x1".toList) = some 1#5 ∧
    memToken Tables.contents (ascii "10(x2)".toList) = some (10, 2#5) ∧
    memToken Tables.contents (ascii "-2048(t5)".toList) = some (-2048, 30#5) ∧
    memToken Tables.contents (ascii "2047(sp)".toList) = some (2047, 2#5) ∧
    memToken Tables.contents (ascii "2048(x2)".toList) = some (2048, 2#5) ∧
    memToken Tables.contents (ascii "-2049(x2)".toList) = some (-2049, 2#5) :=
  ⟨by decide, reads_of (by decide), by decide, by decide, by decide, by decide, by decide, by decide⟩

theorem witness_StoreLinesEncodeAsRuled_malformed :
    Reads "sw x1, x2, 10".toList (ascii "sw".toList) [ascii "x1".toList, ascii "x2".toList, ascii "10".toList] ∧
    (∀ a b, (line "sw x1, x2, 10".toList).lineOperands = .ok [a, b] → resolve Tables.contents a = none ∨ memToken Tables.contents b = none) ∧
    Reads "sw 10(x2), x1".toList (ascii "sw".toList) [ascii "10(x2)".toList, ascii "x1".toList] ∧ resolve Tables.contents (ascii "10(x2)".toList) = none :=
  ⟨reads_of (by decide), no_two (toks := [ascii "x1".toList, ascii "x2".toList, ascii "10".toList]) (by decide) (by decide), reads_of (by decide), by decide⟩

theorem witness_BranchLinesEncodeAsRuled :
    (ascii "bge".toList, 0b101#3) ∈ bRows ∧
    Reads "bge s0, s1, -4096".toList (ascii "bge".toList) [ascii "s0".toList, ascii "s1".toList, ascii "-4096".toList] ∧
    resolve Tables.contents (ascii "s0".toList) = some 8#5 ∧
    resolve Tables.contents (ascii "s1".toList) = some 9#5 ∧
    immToken (ascii "-4096".toList) = some (-4096) ∧
    immToken (ascii "4094".toList) = some 4094 ∧
    immToken (ascii "4095".toList) = some 4095 ∧
    immToken (ascii "-4095".toList) = some (-4095) ∧
    immToken (ascii "4096".toList) = some 4096 ∧
    immToken (ascii "-4097".toList) = some (-4097) :=
  ⟨by decide, reads_of (by decide), by decide, by decide, by decide, by decide, by decide, by decide, by decide, by decide⟩

theorem witness_BranchLinesEncodeAsRuled_malformed :
    Reads "beq x1, 8".toList (ascii "beq".toList) [ascii "x1".toList, ascii "8".toList] ∧
    (∀ a b c, (line "beq x1, 8".toList).lineOperands = .ok [a, b, c] → resolve Tables.contents a = none ∨ resolve Tables.contents b = none ∨ immToken c = none) ∧
    Reads "beq x1, x2, 8(x3)".toList (ascii "beq".toList) [ascii "x1".toList, ascii "x2".toList, ascii "8(x3)".toList] ∧ immToken (ascii "8(x3)".toList) = none :=
  ⟨reads_of (by decide), no_three (toks := [ascii "x1".toList, ascii "8".toList]) (by decide) (by decide), reads_of (by decide), by decide⟩

theorem witness_UpperImmediateLinesEncodeAsRuled :
    (ascii "lui".toList, 0b0110111#7) ∈ uRows ∧
    Reads "lui a0, -1".toList (ascii "lui".toList) [ascii "a0".toList, ascii "-1".toList] ∧
    resolve Tables.contents (ascii "a0".toList) = some 10#5 ∧
    immToken (ascii "-524288".toList) = some (-524288) ∧
    immToken (ascii "1048575".toList) = some 1048575 ∧
    immToken (ascii "1048576".toList) = some 1048576 ∧
    immToken (ascii "-524289".toList) = some (-524289) :=
  ⟨by decide, reads_of (by decide), by decide, by decide, by decide, by decide, by decide⟩

theorem witness_UpperImmediateLinesEncodeAsRuled_malformed :
    Reads "lui x1".toList (ascii "lui".toList) [ascii "x1".toList] ∧
    (∀ a b, (line "lui x1".toList).lineOperands = .ok [a, b] → resolve Tables.contents a = none ∨ immToken b = none) ∧
    Reads "lui x1, x2".toList (ascii "lui".toList) [ascii "x1".toList, ascii "x2".toList] ∧ immToken (ascii "x2".toList) = none :=
  ⟨reads_of (by decide), no_two (toks := [ascii "x1".toList]) (by decide) (by decide), reads_of (by decide), by decide⟩

theorem witness_JalLinesEncodeAsRuled :
    (ascii "jal".toList, 0b1101111#7) ∈ jRows ∧
    Reads "jal zero, -2".toList (ascii "jal".toList) [ascii "zero".toList, ascii "-2".toList] ∧
    resolve Tables.contents (ascii "zero".toList) = some 0#5 ∧
    immToken (ascii "-1048576".toList) = some (-1048576) ∧
    immToken (ascii "1048574".toList) = some 1048574 ∧
    immToken (ascii "1048575".toList) = some 1048575 ∧
    immToken (ascii "-1048575".toList) = some (-1048575) ∧
    immToken (ascii "1048576".toList) = some 1048576 ∧
    immToken (ascii "-1048577".toList) = some (-1048577) :=
  ⟨by decide, reads_of (by decide), by decide, by decide, by decide, by decide, by decide, by decide, by decide⟩

theorem witness_JalLinesEncodeAsRuled_malformed :
    Reads "jal 2000".toList (ascii "jal".toList) [ascii "2000".toList] ∧
    (∀ a b, (line "jal 2000".toList).lineOperands = .ok [a, b] → resolve Tables.contents a = none ∨ immToken b = none) ∧
    Reads "jal x1, x2".toList (ascii "jal".toList) [ascii "x1".toList, ascii "x2".toList] ∧ immToken (ascii "x2".toList) = none :=
  ⟨reads_of (by decide), no_two (toks := [ascii "2000".toList]) (by decide) (by decide), reads_of (by decide), by decide⟩

theorem witness_FixedLinesEncodeAsRuled :
    (ascii "pause".toList, 0x0100000F#32) ∈ Rules.fixedRows ∧ Reads "pause".toList (ascii "pause".toList) [] ∧
    Reads "ecall x0".toList (ascii "ecall".toList) [ascii "x0".toList] ∧ (line "ecall x0".toList).lineOperands ≠ .ok [] ∧
    (line "ecall,".toList).lineOperands = .error .malformedOperands :=
  ⟨by decide, reads_of (by decide), reads_of (by decide), by decide, by decide⟩

theorem witness_CaseIsFoldedBeforeAnyStep :
    (line "ADD SP, Sp, sp".toList).Ready ∧ (line "add sp, sp, SP".toList).Ready ∧
    foldText (line "ADD SP, Sp, sp".toList).input = foldText (line "add sp, sp, SP".toList).input ∧
    ascii "AZ@[".toList = [0x41#8, 0x5A#8, 0x40#8, 0x5B#8] ∧
    (∀ b ∈ [0x41#8, 0x5A#8], 0x41 ≤ b.toNat ∧ b.toNat ≤ 0x5A) ∧ (∀ b ∈ [0x40#8, 0x5B#8], b.toNat < 0x41 ∨ 0x5A < b.toNat) :=
  ⟨line_ready _, line_ready _, by decide⟩

theorem witness_TrimRemovesExactlyTheOuterWhitespace :
    State.reset.TablesLoaded ∧ (∀ b ∈ ascii "\t ".toList ++ ascii "\r\n".toList, isSpace b = true) := ⟨rfl, by decide⟩

theorem witness_MnemonicIsTheLongestTokenPrefix : (splitMnemonic (ascii "add x1".toList)).2.head? = some 0x20#8 := by decide

theorem witness_OperandTokensAreCutAtSeparators :
    (∀ b, (ascii ", x1".toList).head? = some b → isTokenByte b = false) ∧ splitOperands (ascii ", x1".toList) = .ok [ascii "x1".toList] ∧
    (∀ b, (ascii " x1,,x2".toList).head? = some b → isTokenByte b = false) ∧
    splitOperands (ascii " x1,,x2".toList) = .error .malformedOperands := by
  refine ⟨?_, by decide, ?_, by decide⟩ <;> intro b h <;> cases h <;> decide

theorem witness_UnrecognizedExactlyOutsideTheMnemonicTable :
    (line "nop".toList).Ready ∧ (line "nop".toList).lineMnemonic ∉ mnemonics ∧ (line "pause".toList).Ready ∧
    (line "pause".toList).lineMnemonic ∈ mnemonics := by
  have hn : (line "nop".toList).lineMnemonic = ascii "nop".toList := by decide
  have hp : (line "pause".toList).lineMnemonic = ascii "pause".toList := by decide
  rw [hn, hp]
  exact ⟨line_ready _, by decide, line_ready _, by decide⟩

/-- A register position and a base register whose token does not resolve, each in a line whose other operands are well formed. -/
theorem witness_RegisterTokensResolveAsRuled :
    Reads "add x1, x2, x32".toList (ascii "add".toList) [ascii "x1".toList, ascii "x2".toList, ascii "x32".toList] ∧
    lookup (ascii "add".toList) Tables.contents.family = some .r ∧ 2 ∈ regPositions .r ∧
    resolve Tables.contents (ascii "x32".toList) = none ∧
    Reads "lw x1, 10(x32)".toList (ascii "lw".toList) [ascii "x1".toList, ascii "10(x32)".toList] ∧
    lookup (ascii "lw".toList) Tables.contents.family = some .iLoadJalr ∧
    ascii "10(x32)".toList = ascii "10".toList ++ [0x28#8] ++ ascii "x32".toList ++ [0x29#8] ∧ 0x28#8 ∉ ascii "10".toList :=
  ⟨reads_of (by decide), by decide, by decide, by decide, reads_of (by decide), by decide, by decide, by decide⟩

/-- One line for every clause of the precedence statement, the immediates at the bounds. -/
theorem witness_EarliestErrorIsReported :
    (line "foo x1,,x2".toList).Ready ∧ lookup (line "foo x1,,x2".toList).lineMnemonic Tables.contents.family = none ∧
    lookup (line "add x1,,x2".toList).lineMnemonic Tables.contents.family = some .r ∧
    (line "add x1,,x2".toList).lineOperands = .error .malformedOperands ∧
    (line "add x1".toList).lineOperands = .ok [ascii "x1".toList] ∧
    bindShape Tables.contents Family.r.shape [ascii "x1".toList] = none ∧
    (∀ v ∈ [("4096", 4096), ("-4097", -4097), ("4095", 4095), ("-4095", -4095)],
      bindShape Tables.contents Family.b.shape [ascii "x1".toList, ascii "x2".toList, ascii v.1.toList] = some (.regRegImm 1#5 2#5 v.2)) ∧
    (∀ v ∈ [("1048576", 1048576), ("-1048577", -1048577), ("1048575", 1048575), ("-1048575", -1048575)],
      bindShape Tables.contents Family.j.shape [ascii "ra".toList, ascii v.1.toList] = some (.regImm 1#5 v.2)) :=
  ⟨line_ready _, by decide⟩

theorem witness_OutErrNamesTheKindAndTheWordIsZeroOnError :
    step (line "ecall".toList) = .next ((line "ecall".toList).answer (.ok 0x00000073#32)) ∧ (line "foo".toList).Ready ∧
    encodeText Tables.contents (line "foo".toList).input = .error .unrecognizedMnemonic := ⟨rfl, line_ready _, by decide⟩

/-- A port with a word beside an error code, and one with a word beside code 0: the two cases of the sample. -/
theorem witness_OutErrNamesTheKindAndTheWordIsZeroOnError_sample :
    (State.reset.setOutputs 0x00000073#32 4#3).outErr ≠ 0#3 ∧ (State.reset.setOutputs 0x00000073#32 0#3).outErr = 0#3 := by decide

theorem witness_StepIsTheEncodeFunction : (line "lui a0, -1".toList).Ready := line_ready _

/-- The same text in a longer port, after another call. -/
theorem witness_OutputsDependOnTheInputTextAlone :
    (line "ebreak".toList).Ready ∧ ((line "fence.tso rw".toList).withInput (ascii "ebreak".toList)).Ready ∧
    (line "ebreak".toList).input = ((line "fence.tso rw".toList).withInput (ascii "ebreak".toList)).input ∧
    (line "ebreak".toList).inText ≠ ((line "fence.tso rw".toList).withInput (ascii "ebreak".toList)).inText :=
  ⟨line_ready _, State.withInput_ready _ rfl, by decide, by decide⟩

theorem witness_CallsAreIdempotent : step (line "nop".toList) = .next ((line "nop".toList).answer (.error .unrecognizedMnemonic)) := rfl

theorem witness_CallSequencesNeverInteract :
    State.reset.TablesLoaded ∧ [ascii "ecall".toList, ascii "nop".toList].Perm [ascii "nop".toList, ascii "ecall".toList] :=
  ⟨rfl, List.Perm.swap ..⟩

theorem witness_EveryStepKeepsTheInvariant : (line "sw x1, 10(x2)".toList).Inv := ⟨line_ready _, .inr ⟨rfl, .unrecognizedMnemonic, rfl⟩⟩

theorem witness_TablesAndInputsAreNeverWritten :
    step (line "pause".toList) = .next ((line "pause".toList).answer (.ok 0x0100000F#32)) ∧
    exec .pause State.reset = .next (State.reset.answer (.ok 0x0100000F#32)) := ⟨rfl, rfl⟩

theorem witness_StepStopsExactlyOutsideTheSpec :
    State.reset.Ready ∧ ¬ State.InputFits { State.reset with inLen := 1 } ∧ unloaded.InputFits ∧ ¬ unloaded.TablesLoaded :=
  ⟨⟨rfl, Nat.le_refl 0⟩, by unfold State.InputFits; decide, Nat.le_refl 0, by unfold State.TablesLoaded; decide⟩

theorem witness_DecodeInvertsEncode :
    (Instr.lui 1#5 (-524288)).WellFormed ∧ (Instr.jal 1#5 (-1048576)).WellFormed ∧ (Instr.sw 31#5 0#5 (-2048)).WellFormed := by decide

theorem witness_EncodeInvertsDecode : decodeWord 0x800000B7#32 = .ok (.lui 1#5 524288) := by decide

theorem witness_FetchedTableWordComesOutAgain : decodeWord 0x8000006F#32 = .ok (.jal 0#5 (-1048576)) := by decide

theorem witness_EveryYieldedWordMatchesOneTableRow :
    (line "pause".toList).Ready ∧ step (line "pause".toList) = .next ((line "pause".toList).answer (.ok 0x0100000F#32)) ∧
    (line "fence".toList).Ready ∧ step (line "fence".toList) = .next ((line "fence".toList).answer (.error .unrecognizedMnemonic)) :=
  ⟨line_ready _, rfl, line_ready _, rfl⟩

theorem witness_RenderingsSpellTheWord : 0 < 32 ∧ 31 < 32 := by decide

/-- Two patterns that differ in the bit that is not placed. -/
theorem witness_ImmediateBitsArePlacedAsRuled :
    (0x1000#13).extractLsb' 1 12 = (0x1001#13).extractLsb' 1 12 ∧ 0x1000#13 ≠ 0x1001#13 ∧
    (0x100000#21).extractLsb' 1 20 = (0x100001#21).extractLsb' 1 20 ∧ 0x100000#21 ≠ 0x100001#21 := by decide

end Sys2Proof.Tests
end

section
/-! PROOFS. What one call of the machine answers, for every state: a word or an error kind inside the spec, a refusal outside it. From
this the statements about the state (10_state.md) follow. -/

namespace Sys2Proof

/-- The answer of the back half of a call (rule R70): the first immediate check that fails, else the word of the instruction's rule. -/
def Instr.checkedWord (i : Instr) : Except ErrorKind Word :=
  match i.checkImmediate with
  | some k => .error k
  | none => .ok (encode i)

theorem Instr.checkedWord_of_check_error {i : Instr} {k : ErrorKind} (h : i.checkImmediate = some k) : i.checkedWord = .error k := by
  simp [checkedWord, h]

theorem Instr.checkedWord_of_check_none {i : Instr} (h : i.checkImmediate = none) : i.checkedWord = .ok (encode i) := by
  simp [checkedWord, h]

/-- The pure call on a text that does not parse (rules R70, R403). -/
theorem encodeText_of_parse_error {t : Tables} {T : Text} {k : ErrorKind} (h : parse t T = .error k) : encodeText t T = .error k := by
  simp [encodeText, h]

/-- The pure call on a text that parses (rule R70). -/
theorem encodeText_of_parse_ok {t : Tables} {T : Text} {i : Instr} (h : parse t T = .ok i) : encodeText t T = i.checkedWord := by
  simp only [encodeText, h]
  rfl

namespace Machine

/-- On loaded tables an arm of exec answers the word of its instruction's own rule, or the immediate error (rules R70, R86 to R90). -/
theorem exec_of_loaded {s : State} (i : Instr) (h : s.TablesLoaded) : exec i s = .next (s.answer i.checkedWord) := by
  obtain ⟨word, hexec, hword⟩ := exec_shape i
  rw [hexec s]
  cases hcheck : i.checkImmediate with
  | some k => rw [Instr.checkedWord_of_check_error hcheck, encodeCall_error h]
  | none => rw [Instr.checkedWord_of_check_none hcheck, encodeCall_ok h hword]

/-- On any other tables every arm refuses (rule R451). -/
theorem exec_of_not_loaded {s : State} (i : Instr) (h : ¬ s.TablesLoaded) : exec i s = .refused .tablesNotLoaded := by
  obtain ⟨word, hexec, -⟩ := exec_shape i
  rw [hexec s, encodeCall_not_loaded _ word h]

theorem step_of_fetch_refused {s : State} {r : Refusal} (h : fetch s = .refused r) : step s = .refused r := by
  simp [step, h]

theorem step_of_fetch_error {s : State} {k : ErrorKind} (h : fetch s = .error k) : step s = .next (s.answer (.error k)) := by
  simp [step, h, raise_eq]

theorem step_of_fetch_instr {s : State} {i : Instr} (h : fetch s = .instr i) : step s = exec i s := by
  simp [step, h]

/-- Inside the spec a step answers the pure call on the input text (rules R23, R70). -/
theorem step_of_ready {s : State} (h : s.Ready) : step s = .next (s.answer (encodeText Tables.contents s.input)) := by
  have hfetch := fetch_ready h
  cases hparse : parse Tables.contents s.input with
  | error k =>
    rw [hparse] at hfetch
    rw [step_of_fetch_error hfetch, encodeText_of_parse_error hparse]
  | ok i =>
    rw [hparse] at hfetch
    rw [step_of_fetch_instr hfetch, exec_of_loaded i h.loaded, encodeText_of_parse_ok hparse]

/-- A text longer than the port is refused (93_implementation_defined.md U8). -/
theorem step_of_not_fits {s : State} (h : ¬ s.InputFits) : step s = .refused .inputBeyondCapacity :=
  step_of_fetch_refused (fetch_not_fits h)

/-- A call on tables that are not loaded is refused (rule R451). -/
theorem step_of_not_loaded {s : State} (hf : s.InputFits) (h : ¬ s.TablesLoaded) : step s = .refused .tablesNotLoaded :=
  step_of_fetch_refused (fetch_not_loaded hf h)

/-- A step that answers a next state started inside the spec. -/
theorem ready_of_step_next {s s' : State} (h : step s = .next s') : s.Ready := by
  by_cases hf : s.InputFits
  · by_cases hl : s.TablesLoaded
    · exact ⟨hl, hf⟩
    · rw [step_of_not_loaded hf hl] at h
      cases h
  · rw [step_of_not_fits hf] at h
    cases h

/-- Inversion of a step: the only next state is the old one with the pure call's answer on its outputs. -/
theorem eq_answer_of_step_next {s s' : State} (h : step s = .next s') : s' = s.answer (encodeText Tables.contents s.input) := by
  rw [step_of_ready (ready_of_step_next h)] at h
  cases h
  rfl

/-- Inversion of an arm of exec: the only next state is the old one with the instruction's answer on its outputs. -/
theorem eq_answer_of_exec_next {s s' : State} {i : Instr} (h : exec i s = .next s') : s' = s.answer i.checkedWord := by
  by_cases hl : s.TablesLoaded
  · rw [exec_of_loaded i hl] at h
    cases h
    rfl
  · rw [exec_of_not_loaded i hl] at h
    cases h

/-- The frame of an answer: only the output ports differ (rules R22, R34). -/
theorem State.answer_frame (s : State) (r : Except ErrorKind Word) :
    s.answer r = { s with outWord := (s.answer r).outWord, outErr := (s.answer r).outErr } := by
  cases r <;> rfl

/-- The output ports after an answer depend on the answer alone (rules R23, R34). -/
theorem State.answer_outputs_eq (s t : State) (r : Except ErrorKind Word) :
    (s.answer r).outErr = (t.answer r).outErr ∧ (s.answer r).outWord = (t.answer r).outWord ∧
      (s.answer r).sample = (t.answer r).sample := by
  cases r <;> exact ⟨rfl, rfl, rfl⟩

end Machine

open Machine

/-- Settles O35: `exec_shape` gives every arm the word of the separately written `encode`, and `fetch` inside the spec is `parse`. -/
theorem stepIsTheEncodeFunction : Obligations.StepIsTheEncodeFunction := by
  unfold Obligations.StepIsTheEncodeFunction
  exact fun _ hs => step_of_ready hs

/-- Settles O36: both steps answer the pure call on the one text, and an answer's outputs do not depend on the state it is given in. -/
theorem outputsDependOnTheInputTextAlone : Obligations.OutputsDependOnTheInputTextAlone := by
  unfold Obligations.OutputsDependOnTheInputTextAlone
  intro s t hs ht hinput
  have hstep : step t = .next (t.answer (encodeText Tables.contents s.input)) := by rw [hinput, step_of_ready ht]
  exact ⟨_, _, step_of_ready hs, hstep, State.answer_outputs_eq s t _⟩

/-- Settles O40: by inversion the next state of a step, and of an arm of exec, is an answer of the old one. -/
theorem tablesAndInputsAreNeverWritten : Obligations.TablesAndInputsAreNeverWritten := by
  unfold Obligations.TablesAndInputsAreNeverWritten
  intro s s' hnext
  have hanswer : ∃ r, s' = s.answer r := by
    rcases hnext with hstep | ⟨i, hexec⟩
    · exact ⟨_, eq_answer_of_step_next hstep⟩
    · exact ⟨_, eq_answer_of_exec_next hexec⟩
  obtain ⟨r, rfl⟩ := hanswer
  refine ⟨s.answer_frame r, fun key => ?_⟩
  rw [s.answer_tables r]
  exact ⟨rfl, rfl, rfl, rfl, rfl, rfl, rfl⟩

end Sys2Proof
end

section
/-! PROOFS. Calls in a row (20_memory.md): a step leaves the block ready for the next call, and what a consumer samples after a call is
the pure call on that call's own line. -/

namespace Sys2Proof.Machine

/-- A repeated call on the same input changes nothing more (rule R55). -/
theorem step_answer_of_ready {s : State} (h : s.Ready) :
    step (s.answer (encodeText Tables.contents s.input)) = .next (s.answer (encodeText Tables.contents s.input)) := by
  rw [step_of_ready (State.answer_ready _ h), State.answer_input, State.answer_answer]

/-- One call on a line placed at the port, whatever stood there before (rules R23, R57). -/
theorem step_withInput_of_loaded {s : State} (T : Text) (h : s.TablesLoaded) :
    step (s.withInput T) = .next ((s.withInput T).answer (encodeText Tables.contents T)) := by
  rw [step_of_ready (State.withInput_ready T h), State.withInput_input]

/-- A consumer samples the answer and nothing else of the state (rules R22, R402). -/
theorem State.answer_sample (s : State) (r : Except ErrorKind Word) : (s.answer r).sample = Rules.sampleOf r := by
  cases r with
  | ok w => exact s.answer_ok_sample w
  | error k => exact s.answer_error_sample k

/-- A call that answers a next state hands that state to the rest of the sequence. -/
theorem State.runCalls_cons_of_step_next {s s' : State} {T : Text} (lines : List Text) (h : step (s.withInput T) = .next s') :
    s.runCalls (T :: lines) = s'.sample :: s'.runCalls lines := by
  simp only [State.runCalls, h]

/-- Every result of a sequence of calls is that of its own line (rules R57, R452): an answer keeps the tables loaded, which is all that
the next call needs of the state. -/
theorem State.runCalls_of_loaded {s : State} (lines : List Text) (h : s.TablesLoaded) :
    s.runCalls lines = lines.map fun T => Rules.sampleOf (encodeText Tables.contents T) := by
  induction lines generalizing s with
  | nil => rfl
  | cons T lines ih =>
    have hloaded : ((s.withInput T).answer (encodeText Tables.contents T)).TablesLoaded := by simpa using h
    rw [State.runCalls_cons_of_step_next lines (step_withInput_of_loaded T h), State.answer_sample, ih hloaded, List.map_cons]

end Sys2Proof.Machine

namespace Sys2Proof

open Machine

/-- Settles O37: the next state is the pure call's answer, which leaves tables and inputs as they were, so the same call answers it again;
its two cases are those of the answer. -/
theorem callsAreIdempotent : Obligations.CallsAreIdempotent := by
  unfold Obligations.CallsAreIdempotent
  intro s s' hstep
  obtain rfl := eq_answer_of_step_next hstep
  refine ⟨step_answer_of_ready (ready_of_step_next hstep), s.answer_tables _, s.answer_inText _, s.answer_inLen _, ?_⟩
  cases encodeText Tables.contents s.input with
  | ok w => exact .inl ⟨w, rfl, s.answer_ok_outErr w, s.answer_ok_outWord w⟩
  | error k =>
    have herr : (s.answer (.error k)).outErr ≠ 0#3 := ErrorKind_code_ne_zero k
    exact .inr ⟨k, rfl, herr, s.answer_error_outWord k⟩

/-- Settles O38: the results are a map over the lines, and a map of a permuted list is a permutation of the map. -/
theorem callSequencesNeverInteract : Obligations.CallSequencesNeverInteract := by
  unfold Obligations.CallSequencesNeverInteract
  intro s lines hloaded
  refine ⟨State.runCalls_of_loaded lines hloaded, fun lines' hperm => ?_⟩
  rw [State.runCalls_of_loaded lines hloaded, State.runCalls_of_loaded lines' hloaded]
  exact hperm.map _

end Sys2Proof
end

section
/-! PROOFS. The front of a call (30_encoding.md sections 1 and 2): the case fold and the trim, which a call applies before it reads
anything, and the listed example lines. -/

namespace Sys2Proof

/-- A call reads its text only through the folded and trimmed line (rule R70). -/
theorem encodeText_congr {t : Tables} {T U : Text} (h : trim (foldText T) = trim (foldText U)) : encodeText t T = encodeText t U := by
  have hparse : parse t T = parse t U := by simp only [parse, h]
  simp only [encodeText, hparse]

/-- A list of example lines holds when the pure call gives each line its listed result (rules R23, R57). -/
theorem Rules.examplesHold_of_encodeText {examples : List (Text × Except ErrorKind Word)}
    (h : ∀ p ∈ examples, encodeText Tables.contents p.1 = p.2) : Rules.ExamplesHold examples := by
  intro s hs T r hmem
  rw [Machine.step_withInput_of_loaded T hs, h _ hmem]

theorem foldByte_of_capital {b : Byte} (h : 0x41 ≤ b.toNat ∧ b.toNat ≤ 0x5A) : foldByte b = b + 0x20#8 := by
  simp [foldByte, BitVec.le_def, h]

theorem foldByte_of_not_capital {b : Byte} (h : b.toNat < 0x41 ∨ 0x5A < b.toNat) : foldByte b = b := by
  have hcap : ¬ (0x41 ≤ b.toNat ∧ b.toNat ≤ 0x5A) := by omega
  simp [foldByte, BitVec.le_def, hcap]

theorem isSpace_iff {b : Byte} : isSpace b = true ↔ b = 0x09#8 ∨ b = 0x0A#8 ∨ b = 0x0D#8 ∨ b = 0x20#8 := by
  simp [isSpace, or_assoc]

/-- The fold keeps whitespace (rules R71, R72). -/
theorem foldByte_of_isSpace {b : Byte} (h : isSpace b = true) : foldByte b = b := by
  rcases isSpace_iff.1 h with rfl | rfl | rfl | rfl <;> rfl

theorem foldText_of_spaces {x : Text} (h : ∀ b ∈ x, isSpace b = true) : foldText x = x := by
  rw [foldText, List.map_congr_left fun b hb => foldByte_of_isSpace (h b hb), List.map_id']

theorem foldText_append (x y : Text) : foldText (x ++ y) = foldText x ++ foldText y := List.map_append

/-- `trim` through the library's two-sided drops (rule R73). -/
theorem trim_eq_rdropWhile (x : Text) : trim x = (dropSpace x).rdropWhile isSpace := rfl

theorem dropSpace_append_of_spaces {x : Text} (h : ∀ b ∈ x, isSpace b = true) (y : Text) : dropSpace (x ++ y) = dropSpace y :=
  List.dropWhile_append_of_pos h

theorem dropSpace_append (x y : Text) : dropSpace (x ++ y) = if dropSpace x = [] then dropSpace y else dropSpace x ++ y :=
  List.dropWhile_append.trans (if_congr List.isEmpty_iff rfl rfl)

theorem rdropWhile_append_of_spaces {y : Text} (h : ∀ b ∈ y, isSpace b = true) (x : Text) :
    (x ++ y).rdropWhile isSpace = x.rdropWhile isSpace := by
  rw [List.rdropWhile, List.reverse_append, List.dropWhile_append_of_pos (by simpa using h)]
  rfl

/-- Whitespace around a text is not part of its trim (rule R73). -/
theorem trim_of_outer_spaces {x y : Text} (hx : ∀ b ∈ x, isSpace b = true) (hy : ∀ b ∈ y, isSpace b = true) (T : Text) :
    trim (x ++ T ++ y) = trim T := by
  rw [List.append_assoc, trim_eq_rdropWhile, dropSpace_append_of_spaces hx, trim_eq_rdropWhile]
  by_cases hT : dropSpace T = []
  · have hy' : dropSpace y = [] := List.dropWhile_eq_nil_iff.2 hy
    rw [dropSpace_append, if_pos hT, hy', hT]
  · rw [dropSpace_append, if_neg hT, rdropWhile_append_of_spaces hy]

/-- A text is whitespace, its trim, and whitespace (rule R73). -/
theorem exists_spaces_trim (x : Text) :
    ∃ before after, x = before ++ trim x ++ after ∧ ∀ b ∈ before ++ after, isSpace b = true := by
  refine ⟨x.takeWhile isSpace, (dropSpace x).rtakeWhile isSpace, ?_, fun b hb => ?_⟩
  · rw [trim_eq_rdropWhile, List.append_assoc, List.rdropWhile_append_rtakeWhile, dropSpace, List.takeWhile_append_dropWhile]
  · rcases List.mem_append.1 hb with hb | hb
    · exact List.mem_takeWhile_imp hb
    · exact List.mem_rtakeWhile_imp hb

/-- A trimmed text ends without whitespace (rule R73). -/
theorem getLast_trim {x : Text} {b : Byte} (h : (trim x).getLast? = some b) : isSpace b = false := by
  have hrev : (dropSpace (dropSpace x).reverse).head? = some b := by simpa [trim] using h
  exact head_dropSpace hrev

/-- A trimmed text starts without whitespace: it is an initial part of a text that does (rule R73). -/
theorem head_trim {x : Text} {b : Byte} (h : (trim x).head? = some b) : isSpace b = false := by
  have hpre : trim x <+: dropSpace x := List.rdropWhile_prefix isSpace (dropSpace x)
  obtain ⟨tail, htail⟩ := hpre
  refine head_dropSpace (s := x) ?_
  rw [← htail, List.head?_append, h]
  rfl

/-- Whitespace around a line does not change the pure call (rules R71 to R73). -/
theorem encodeText_of_outer_spaces {t : Tables} {x y : Text} (hx : ∀ b ∈ x, isSpace b = true) (hy : ∀ b ∈ y, isSpace b = true) (T : Text) :
    encodeText t (x ++ T ++ y) = encodeText t T := by
  refine encodeText_congr ?_
  rw [foldText_append, foldText_append, foldText_of_spaces hx, foldText_of_spaces hy, trim_of_outer_spaces hx hy]

open Machine

/-- Settles O24: a call reads its text through the fold alone, and the fold maps `foldByte` over the bytes. -/
theorem caseIsFoldedBeforeAnyStep : Obligations.CaseIsFoldedBeforeAnyStep := by
  unfold Obligations.CaseIsFoldedBeforeAnyStep
  refine ⟨fun s t hs ht hfold => ?_, fun T => ⟨List.length_map _, fun i b hb => ?_⟩, Rules.examplesHold_of_encodeText (by decide)⟩
  · refine ⟨_, step_of_ready hs, ?_⟩
    rw [encodeText_congr (congrArg trim hfold)]
    exact step_of_ready ht
  · have hget : (foldText T)[i]? = some (foldByte b) := by simp [foldText, hb]
    rw [hget]
    exact ⟨fun h => congrArg some (foldByte_of_capital h), fun h => congrArg some (foldByte_of_not_capital h)⟩

/-- Settles O25: `trim` is the library's drop at either end, and the fold keeps the whitespace that is dropped. -/
theorem trimRemovesExactlyTheOuterWhitespace : Obligations.TrimRemovesExactlyTheOuterWhitespace := by
  unfold Obligations.TrimRemovesExactlyTheOuterWhitespace
  refine ⟨fun b => ⟨isSpace_iff, ?_⟩, fun x => ?_, fun s before T after hs hspace => ?_⟩
  · simp [isTokenByte_iff, isComma]
  · obtain ⟨before, after, hx, hspace⟩ := exists_spaces_trim x
    exact ⟨before, after, hx, hspace, fun b => head_trim, fun b => getLast_trim⟩
  · obtain ⟨hbefore, hafter⟩ := List.forall_mem_append.1 hspace
    refine ⟨_, step_withInput_of_loaded T hs, ?_⟩
    rw [← encodeText_of_outer_spaces hbefore hafter T]
    exact step_withInput_of_loaded _ hs

end Sys2Proof
end

section
/-! PROOFS. Operand tokens (30_encoding.md section 3): the cut at separators, and what an immediate token and a memory-operand token are. -/

namespace Sys2Proof

open Rules Machine

/-! Separators and tokens (rule R75). -/

theorem isComma_iff {b : Byte} : isComma b = true ↔ b = 0x2C#8 := by simp [isComma]

theorem isTokenByte_eq_false_iff {b : Byte} : isTokenByte b = false ↔ isSpace b = true ∨ b = 0x2C#8 := by
  simp [isTokenByte, isComma, ← Bool.not_eq_true, or_iff_not_imp_left]

theorem isToken_iff {x : Text} : IsToken x ↔ x ≠ [] ∧ ∀ b ∈ x, isTokenByte b = true := by
  simp [IsToken, isTokenByte_iff, isComma]

/-- A text is its leading whitespace and the rest. -/
theorem exists_append_dropSpace (x : Text) : ∃ sp, x = sp ++ dropSpace x ∧ ∀ b ∈ sp, isSpace b = true :=
  ⟨x.takeWhile isSpace, List.takeWhile_append_dropWhile.symm, fun _ => List.mem_takeWhile_imp⟩

theorem count_comma_of_spaces {sp : Text} (h : ∀ b ∈ sp, isSpace b = true) : sp.count 0x2C#8 = 0 :=
  List.count_eq_zero.2 fun hmem => absurd (h _ hmem) (by decide)

theorem isSpace_of_no_comma {x : Text} (hcount : x.count 0x2C#8 = 0) (h : ∀ b ∈ x, isSpace b = true ∨ b = 0x2C#8) :
    ∀ b ∈ x, isSpace b = true :=
  fun b hb => (h b hb).resolve_right fun e => List.count_eq_zero.1 hcount (e ▸ hb)

/-- A separator is whitespace, or whitespace, one comma and whitespace. -/
theorem separator_cases {sep : Text} (h : IsSeparator sep) :
    (∀ b ∈ sep, isSpace b = true) ∨
    ∃ sp sq, sep = sp ++ 0x2C#8 :: sq ∧ (∀ b ∈ sp, isSpace b = true) ∧ ∀ b ∈ sq, isSpace b = true := by
  obtain ⟨-, hbytes, hcount⟩ := h
  by_cases hmem : 0x2C#8 ∈ sep
  · obtain ⟨sp, sq, rfl⟩ := List.append_of_mem hmem
    rw [List.count_append, List.count_cons_self] at hcount
    obtain ⟨hsp, htail⟩ := List.forall_mem_append.1 hbytes
    obtain ⟨-, hsq⟩ := List.forall_mem_cons.1 htail
    exact .inr ⟨sp, sq, rfl, isSpace_of_no_comma (by omega) hsp, isSpace_of_no_comma (by omega) hsq⟩
  · exact .inl (isSpace_of_no_comma (List.count_eq_zero.2 hmem) hbytes)

theorem dropSeparator_of_isSeparator {sep tok : Text} (hsep : IsSeparator sep) (htok : IsToken tok) (r : Text) :
    dropSeparator (sep ++ (tok ++ r)) = tok ++ r := by
  obtain ⟨hne, hbytes⟩ := isToken_iff.1 htok
  obtain ⟨c, cs, rfl⟩ := List.exists_cons_of_ne_nil hne
  have hc := hbytes c (List.mem_cons_self ..)
  rcases separator_cases hsep with hsp | ⟨sp, sq, rfl, hsp, hsq⟩
  · exact dropSeparator_spaces hsp hc (cs ++ r)
  · simpa using dropSeparator_comma hsp hsq hc (cs ++ r)

/-- What `dropSeparator` drops: whitespace and at most one comma. -/
theorem exists_append_dropSeparator (x : Text) :
    ∃ sep, x = sep ++ dropSeparator x ∧ (∀ b ∈ sep, isSpace b = true ∨ b = 0x2C#8) ∧ sep.count 0x2C#8 ≤ 1 := by
  obtain ⟨sp, hx, hsp⟩ := exists_append_dropSpace x
  unfold dropSeparator
  cases hd : dropSpace x with
  | nil => exact ⟨sp, by rw [hx, hd], fun b hb => .inl (hsp b hb), by rw [count_comma_of_spaces hsp]; omega⟩
  | cons c cs =>
    rw [hd] at hx
    by_cases hc : isComma c = true
    · obtain ⟨sq, hcs, hsq⟩ := exists_append_dropSpace cs
      obtain rfl := isComma_iff.1 hc
      refine ⟨sp ++ 0x2C#8 :: sq, ?_, fun b hb => ?_, ?_⟩
      · rw [hx, hcs]
        simp [hc, ← hcs]
      · rcases List.mem_append.1 hb with hb | hb
        · exact .inl (hsp b hb)
        · exact (List.mem_cons.1 hb).elim .inr fun hb => .inl (hsq b hb)
      · simp [count_comma_of_spaces hsp, count_comma_of_spaces hsq]
    · refine ⟨sp, by simp [hx, hc], fun b hb => .inl (hsp b hb), ?_⟩
      rw [count_comma_of_spaces hsp]
      omega

/-- Inversion of a successful cut: nothing is left, or a token behind what `dropSeparator` drops and the cut of what is left. -/
theorem splitOperands_eq_ok {rest : Text} {toks : List Text} (h : splitOperands rest = .ok toks) :
    (rest = [] ∧ toks = []) ∨
    ∃ ts, toks = takeToken (dropSeparator rest) :: ts ∧ IsToken (takeToken (dropSeparator rest)) ∧
      splitOperands (dropToken (dropSeparator rest)) = .ok ts := by
  rw [splitOperands_eq] at h
  cases rest with
  | nil => cases h; exact .inl ⟨rfl, rfl⟩
  | cons c cs =>
    cases hd : dropSeparator (c :: cs) with
    | nil => simp [hd] at h
    | cons d ds =>
      simp only [hd] at h
      by_cases hcomma : isComma d = true
      · simp [hcomma] at h
      · have hbyte : isTokenByte d = true := (isTokenByte_iff d).2 ⟨head_dropSeparator hd, by simpa using hcomma⟩
        have htok : IsToken (takeToken (d :: ds)) := isToken_iff.2 ⟨by simp [takeToken, hbyte], fun _ => isTokenByte_of_mem_takeToken⟩
        cases hsplit : splitOperands (dropToken (d :: ds)) with
        | error k => simp [hcomma, hsplit] at h
        | ok ts =>
          simp only [hcomma, hsplit] at h
          cases h
          exact .inr ⟨ts, rfl, htok, rfl⟩

/-- Separators and tokens in turn, as one text (rule R75). -/
def separated (seps toks : List Text) : Text := (List.zipWith (fun x y => x ++ y) seps toks).flatten

theorem separated_cons (x t : Text) (seps toks : List Text) : separated (x :: seps) (t :: toks) = x ++ (t ++ separated seps toks) := by
  simp [separated]

/-- A text of separators and tokens does not start with a token byte. -/
theorem head_separated {seps toks : List Text} (hseps : ∀ x ∈ seps, IsSeparator x) {b : Byte}
    (h : (separated seps toks).head? = some b) : isTokenByte b = false := by
  cases seps with
  | nil => simp [separated] at h
  | cons x seps =>
    cases toks with
    | nil => simp [separated] at h
    | cons t toks =>
      obtain ⟨hne, hbytes, -⟩ := hseps x (List.mem_cons_self ..)
      obtain ⟨c, cs, rfl⟩ := List.exists_cons_of_ne_nil hne
      rw [separated_cons] at h
      obtain rfl : c = b := Option.some.inj h
      exact isTokenByte_eq_false_iff.2 (hbytes c (List.mem_cons_self ..))

theorem splitOperands_separated {seps toks : List Text} (hlen : seps.length = toks.length) (hseps : ∀ x ∈ seps, IsSeparator x)
    (htoks : ∀ x ∈ toks, IsToken x) : splitOperands (separated seps toks) = .ok toks := by
  induction toks generalizing seps with
  | nil => simp [separated]
  | cons t toks ih =>
    cases seps with
    | nil => cases hlen
    | cons x seps =>
      obtain ⟨hx, hseps⟩ := List.forall_mem_cons.1 hseps
      obtain ⟨ht, htoks⟩ := List.forall_mem_cons.1 htoks
      obtain ⟨htne, htbytes⟩ := isToken_iff.1 ht
      rw [separated_cons, splitOperands_turn hx.1 htne htbytes (fun b => head_separated hseps) (dropSeparator_of_isSeparator hx ht _),
        ih (Nat.succ.inj hlen) hseps htoks]
      rfl

/-- A successful cut of a text that does not start with a token byte puts one separator in front of every token (rule R75). -/
theorem exists_separated_of_splitOperands {rest : Text} {toks : List Text} (hhead : ∀ b, rest.head? = some b → isTokenByte b = false)
    (h : splitOperands rest = .ok toks) :
    ∃ seps : List Text, seps.length = toks.length ∧ (∀ x ∈ seps, IsSeparator x) ∧ (∀ x ∈ toks, IsToken x) ∧ rest = separated seps toks := by
  induction toks generalizing rest with
  | nil =>
    obtain ⟨rfl, -⟩ | ⟨ts, hts, -⟩ := splitOperands_eq_ok h
    · exact ⟨[], rfl, by simp, by simp, rfl⟩
    · cases hts
  | cons t toks ih =>
    obtain ⟨-, hts⟩ | ⟨ts, hts, htok, hsplit⟩ := splitOperands_eq_ok h
    · cases hts
    · cases hts
      obtain ⟨sep, hrest, hbytes, hcount⟩ := exists_append_dropSeparator rest
      obtain ⟨seps, hlen, hseps, htoks, hrest'⟩ := ih (fun b => head_dropToken) hsplit
      have hne : sep ≠ [] := by
        rintro rfl
        obtain ⟨hne, hbyte⟩ := isToken_iff.1 htok
        rw [List.nil_append] at hrest
        rw [← hrest] at hne hbyte
        cases rest with
        | nil => exact hne rfl
        | cons c cs => simp [takeToken, hhead c rfl] at hne
      refine ⟨sep :: seps, congrArg (· + 1) hlen, List.forall_mem_cons.2 ⟨⟨hne, hbytes, hcount⟩, hseps⟩,
        List.forall_mem_cons.2 ⟨htok, htoks⟩, ?_⟩
      rw [separated_cons, ← hrest', takeToken_append_dropToken]
      exact hrest

/-! Immediate tokens (rule R84). -/

theorem digitValue_eq_some {b : Byte} {d : Nat} : digitValue b = some d ↔ (0x30 ≤ b.toNat ∧ b.toNat ≤ 0x39) ∧ d = b.toNat - 0x30 := by
  simp [digitValue, BitVec.le_def, eq_comm]

/-- The digits a run of bytes spells, from any value on. -/
theorem digitsValue_eq_some {acc n : Nat} {x : Text} :
    digitsValue acc x = some n ↔
      (∀ b ∈ x, 0x30 ≤ b.toNat ∧ b.toNat ≤ 0x39) ∧ n = x.foldl (fun n b => n * 10 + (b.toNat - 0x30)) acc := by
  induction x generalizing acc with
  | nil => simp [digitsValue, eq_comm]
  | cons b bs ih =>
    cases hb : digitValue b with
    | none =>
      have hdigit : ¬ (0x30 ≤ b.toNat ∧ b.toNat ≤ 0x39) := fun h => by
        rw [digitValue_eq_some.2 ⟨h, rfl⟩] at hb
        cases hb
      simp [digitsValue, hb, hdigit]
    | some d =>
      obtain ⟨hdigit, rfl⟩ := digitValue_eq_some.1 hb
      simp [digitsValue, hb, ih, hdigit]

theorem digitsToken_eq_some {x : Text} {n : Nat} : digitsToken x = some n ↔ IsDigits x ∧ n = decimalValue x := by
  cases x with
  | nil => simp [digitsToken, IsDigits]
  | cons b bs => simp only [digitsToken, digitsValue_eq_some, IsDigits, decimalValue, ne_eq, reduceCtorEq, not_false_eq_true, true_and]

/-- An immediate token is a run of digits, or a sign byte and a run of digits (rule R84). -/
theorem immToken_eq_some {x : Text} {v : Int} :
    immToken x = some v ↔ ∃ digits, IsDigits digits ∧
      ((x = digits ∧ v = decimalValue digits) ∨ (x = 0x2B#8 :: digits ∧ v = decimalValue digits) ∨
        (x = 0x2D#8 :: digits ∧ v = -(decimalValue digits : Int))) := by
  have hsign : ∀ {b : Byte} {bs : Text}, IsDigits (b :: bs) → b ≠ 0x2B#8 ∧ b ≠ 0x2D#8 := by
    intro b bs h
    have hb := h.2 b (List.mem_cons_self ..)
    exact ⟨by rintro rfl; simp at hb, by rintro rfl; simp at hb⟩
  constructor
  · intro h
    cases x with
    | nil => cases h
    | cons b bs =>
      simp only [immToken] at h
      split_ifs at h with hplus hminus
      · obtain ⟨n, hn, rfl⟩ := Option.map_eq_some_iff.1 h
        obtain ⟨hdigits, rfl⟩ := digitsToken_eq_some.1 hn
        exact ⟨bs, hdigits, .inr (.inl ⟨by rw [hplus], rfl⟩)⟩
      · obtain ⟨n, hn, rfl⟩ := Option.map_eq_some_iff.1 h
        obtain ⟨hdigits, rfl⟩ := digitsToken_eq_some.1 hn
        exact ⟨bs, hdigits, .inr (.inr ⟨by rw [hminus], rfl⟩)⟩
      · obtain ⟨n, hn, rfl⟩ := Option.map_eq_some_iff.1 h
        obtain ⟨hdigits, rfl⟩ := digitsToken_eq_some.1 hn
        exact ⟨b :: bs, hdigits, .inl ⟨rfl, rfl⟩⟩
  · rintro ⟨digits, hdigits, ⟨rfl, rfl⟩ | ⟨rfl, rfl⟩ | ⟨rfl, rfl⟩⟩
    · obtain ⟨b, bs, rfl⟩ := List.exists_cons_of_ne_nil hdigits.1
      obtain ⟨hplus, hminus⟩ := hsign hdigits
      simp [immToken, hplus, hminus, digitsToken_eq_some.2 ⟨hdigits, rfl⟩]
    · simp [immToken, digitsToken_eq_some.2 ⟨hdigits, rfl⟩]
    · simp [immToken, digitsToken_eq_some.2 ⟨hdigits, rfl⟩]

/-! Memory-operand tokens (rule R85). -/

theorem isParen_iff {b : Byte} : isParen b = true ↔ b = 0x28#8 ∨ b = 0x29#8 := by simp [isParen]

/-- An immediate token holds no parenthesis. -/
theorem isParen_of_mem_immToken {I : Text} {v : Int} (h : immToken I = some v) : ∀ b ∈ I, isParen b = false := by
  have hdigit : ∀ {digits : Text}, IsDigits digits → ∀ b ∈ digits, isParen b = false := by
    intro digits hd b hb
    have hrange := hd.2 b hb
    rw [← Bool.not_eq_true, isParen_iff]
    rintro (rfl | rfl) <;> simp at hrange
  obtain ⟨digits, hd, ⟨rfl, -⟩ | ⟨rfl, -⟩ | ⟨rfl, -⟩⟩ := immToken_eq_some.1 h
  · exact hdigit hd
  · exact List.forall_mem_cons.2 ⟨rfl, hdigit hd⟩
  · exact List.forall_mem_cons.2 ⟨rfl, hdigit hd⟩

/-- A memory-operand token is `I(R)`, with an immediate token and a register token without parentheses (rule R85). -/
theorem memToken_eq_some {t : Tables} {token : Text} {v : Int} {r : RegId} :
    memToken t token = some (v, r) ↔
      ∃ I R, token = I ++ [0x28#8] ++ R ++ [0x29#8] ∧ immToken I = some v ∧ resolve t R = some r ∧ 0x28#8 ∉ R ∧ 0x29#8 ∉ R := by
  constructor
  · intro h
    unfold memToken at h
    cases hcut : token.dropWhile (fun b => !(b == 0x28#8)) with
    | nil => simp [hcut] at h
    | cons p tail =>
      simp only [hcut] at h
      split_ifs at h with hlast
      obtain ⟨hlast, hplain⟩ := hlast
      split at h
      next offset base hI hR =>
        cases h
        have hp : p = 0x28#8 := by
          have hhead := List.head?_dropWhile_not (fun b : Byte => !(b == 0x28#8)) token
          simpa [hcut] using hhead
        have htail : tail = tail.dropLast ++ [0x29#8] := (List.dropLast_append_getLast? _ hlast).symm
        have htoken : token = token.takeWhile (fun b => !(b == 0x28#8)) ++ p :: tail := by
          rw [← hcut, List.takeWhile_append_dropWhile]
        have hR' : ∀ b ∈ tail.dropLast, b ≠ 0x28#8 ∧ b ≠ 0x29#8 := by simpa [isParen] using hplain
        refine ⟨_, tail.dropLast, ?_, hI, hR, fun hb => (hR' _ hb).1 rfl, fun hb => (hR' _ hb).2 rfl⟩
        rw [hp, htail] at htoken
        simpa using htoken
      next => cases h
  · rintro ⟨I, R, rfl, hI, hR, hopen, hclose⟩
    have hplain : ∀ b ∈ R, isParen b = false := by
      intro b hb
      rw [← Bool.not_eq_true, isParen_iff]
      rintro (rfl | rfl)
      · exact hopen hb
      · exact hclose hb
    have hparts := memToken_parts t (isParen_of_mem_immToken hI) hplain
    simpa [hI, hR] using hparts

/-- A token cut at its parentheses whose base is no register token is no memory operand (rules R79, R85). -/
theorem memToken_of_base_unresolved {t : Tables} {I R : Text} (h : resolve t R = none) :
    memToken t (I ++ [0x28#8] ++ R ++ [0x29#8]) = none := by
  cases hm : memToken t (I ++ [0x28#8] ++ R ++ [0x29#8]) with
  | none => rfl
  | some p =>
    obtain ⟨I', R', htoken, hI', hR', hopen, -⟩ := memToken_eq_some.1 hm
    have hI : 0x28#8 ∉ I' := fun hmem => absurd (isParen_of_mem_immToken hI' _ hmem) (by decide)
    have hsplit : I' ++ 0x28#8 :: (R' ++ [0x29#8]) = I ++ 0x28#8 :: (R ++ [0x29#8]) := by simpa using htoken.symm
    obtain ⟨-, -, hR⟩ := (List.append_cons_inj_of_notMem hI (by simpa using hopen)).1 hsplit
    rw [List.append_cancel_right hR, h] at hR'
    cases hR'

/-- Settles O27: each turn of the loop takes one separator and one token, so cut and concatenation are inverse to each other. -/
theorem operandTokensAreCutAtSeparators : Obligations.OperandTokensAreCutAtSeparators := by
  unfold Obligations.OperandTokensAreCutAtSeparators
  refine ⟨fun rest hhead => ⟨fun toks => ⟨exists_separated_of_splitOperands hhead, ?_⟩, fun k => splitOperands_error⟩,
    examplesHold_of_encodeText (by decide)⟩
  rintro ⟨seps, hlen, hseps, htoks, rfl⟩
  exact splitOperands_separated hlen hseps htoks

/-- Settles O30: the digit loop succeeds on digits alone and folds their decimal value; `immToken` takes one sign byte off before it. -/
theorem immediateTokensAreSignedDecimals : Obligations.ImmediateTokensAreSignedDecimals := by
  unfold Obligations.ImmediateTokensAreSignedDecimals
  exact ⟨fun _ _ => immToken_eq_some, examplesHold_of_encodeText (by decide)⟩

/-- Settles O31: the cut at the first `(` finds the only one, since neither part holds a parenthesis. -/
theorem memoryTokensAreOffsetAndBase : Obligations.MemoryTokensAreOffsetAndBase := by
  unfold Obligations.MemoryTokensAreOffsetAndBase
  exact ⟨fun _ _ _ => memToken_eq_some, examplesHold_of_encodeText (by decide)⟩

end Sys2Proof
end

section
/-! PROOFS. What the front half of a call reads on a line (30_encoding.md sections 3 and 4): the family of its mnemonic, the operands its
tokens bind, which error kind each part of the call can raise, and the names of registers. -/

namespace Sys2Proof

open Rules

/-! The mnemonic table (rules R76, R77). -/

/-- The keys of `T_FAMILY` are the 41 mnemonics of rule R77, in order. -/
theorem family_keys : Tables.contents.family.map (·.1) = mnemonics := by decide

theorem mnemonics_nodup : mnemonics.Nodup := by decide

theorem lookup_family_eq_none {m : Text} : lookup m Tables.contents.family = none ↔ m ∉ mnemonics := by
  rw [lookup_eq_none, family_keys]

/-- In a table whose keys are all different, a lookup finds exactly the rows. -/
theorem lookup_eq_some_iff_mem {α : Type} {rows : List (Text × α)} (hn : (rows.map (·.1)).Nodup) {k : Text} {v : α} :
    lookup k rows = some v ↔ (k, v) ∈ rows := ⟨mem_of_lookup, lookup_of_mem hn⟩

theorem lookup_family_eq_some {m : Text} {fam : Family} :
    lookup m Tables.contents.family = some fam ↔ (m, fam) ∈ Tables.contents.family :=
  lookup_eq_some_iff_mem (family_keys ▸ mnemonics_nodup)

/-- The mnemonics of a family's rules, each with that family. -/
def familyRows {α : Type} (fam : Family) (rows : List (Text × α)) : List (Text × Family) := rows.map fun p => (p.1, fam)

theorem mem_familyRows {α : Type} {rows : List (Text × α)} {m : Text} {f fam : Family} :
    (m, fam) ∈ familyRows f rows ↔ fam = f ∧ m ∈ rows.map (·.1) := by
  simp only [familyRows, List.mem_map, Prod.mk.injEq]
  constructor
  · rintro ⟨p, hp, rfl, rfl⟩
    exact ⟨rfl, p, hp, rfl⟩
  · rintro ⟨rfl, p, hp, rfl⟩
    exact ⟨p, hp, rfl, rfl⟩

/-- `T_FAMILY` is the mnemonics of rules R200 to R363, family by family. -/
theorem family_eq_rows :
    Tables.contents.family = familyRows .r rRows ++ familyRows .iArith iArithRows ++ familyRows .iLoadJalr iLoadJalrRows ++
      familyRows .iShift iShiftRows ++ familyRows .s sRows ++ familyRows .b bRows ++ familyRows .u uRows ++ familyRows .j jRows ++
      familyRows .fixed Rules.fixedRows := by decide

/-! What each shape binds (rule R78). -/

/-- Inversion of `bindShape`: the count of the tokens, and what each of them is. -/
theorem bindShape_eq_some {t : Tables} {shape : Shape} {toks : List Text} {ops : Operands} (h : bindShape t shape toks = some ops) :
    (shape = .regRegReg ∧ ∃ a b c x y z, toks = [a, b, c] ∧ resolve t a = some x ∧ resolve t b = some y ∧ resolve t c = some z ∧
      ops = .regRegReg x y z) ∨
    (shape = .regRegImm ∧ ∃ a b c x y v, toks = [a, b, c] ∧ resolve t a = some x ∧ resolve t b = some y ∧ immToken c = some v ∧
      ops = .regRegImm x y v) ∨
    (shape = .regMem ∧ ∃ a m x v y, toks = [a, m] ∧ resolve t a = some x ∧ memToken t m = some (v, y) ∧ ops = .regMem x v y) ∨
    (shape = .regImm ∧ ∃ a c x v, toks = [a, c] ∧ resolve t a = some x ∧ immToken c = some v ∧ ops = .regImm x v) ∨
    (shape = .noOperand ∧ toks = [] ∧ ops = .noOperand) := by
  unfold bindShape at h
  split at h
  next a b c =>
    split at h
    next x y z hx hy hz => cases h; exact .inl ⟨rfl, a, b, c, x, y, z, rfl, hx, hy, hz, rfl⟩
    next => cases h
  next a b c =>
    split at h
    next x y v hx hy hv => cases h; exact .inr (.inl ⟨rfl, a, b, c, x, y, v, rfl, hx, hy, hv, rfl⟩)
    next => cases h
  next a m =>
    split at h
    next x v y hx hm => cases h; exact .inr (.inr (.inl ⟨rfl, a, m, x, v, y, rfl, hx, hm, rfl⟩))
    next => cases h
  next a c =>
    split at h
    next x v hx hv => cases h; exact .inr (.inr (.inr (.inl ⟨rfl, a, c, x, v, rfl, hx, hv, rfl⟩)))
    next => cases h
  next => cases h; exact .inr (.inr (.inr (.inr ⟨rfl, rfl, rfl⟩)))
  next => cases h

/-! The error kinds of the parts of a call (rules R400, R403). -/

theorem checkRange_error {c : Bool} {k : ErrorKind} (h : checkRange c = some k) : k = .immediateOutOfRange := by
  unfold checkRange at h
  split at h <;> cases h
  rfl

theorem checkRangeThenEven_error {c : Bool} {v : Int} {k : ErrorKind} (h : checkRangeThenEven c v = some k) :
    k = .immediateOutOfRange ∨ k = .immediateMisaligned := by
  unfold checkRangeThenEven at h
  split at h
  · split at h <;> cases h
    exact .inr rfl
  · cases h
    exact .inl rfl

/-- `check_immediate` raises the two immediate errors and no other (rules R86 to R90). -/
theorem checkImmediate_error {i : Instr} {k : ErrorKind} (h : i.checkImmediate = some k) :
    k = .immediateOutOfRange ∨ k = .immediateMisaligned := by
  cases i
  case add | sub | sll | slt | sltu | xor | srl | sra | or | and | ecall | ebreak | fenceTso | pause => cases h
  case addi | slti | sltiu | xori | ori | andi | lb | lh | lw | lbu | lhu | jalr | slli | srli | srai | sb | sh | sw | lui | auipc =>
    exact .inl (checkRange_error h)
  case beq | bne | blt | bge | bltu | bgeu | jal => exact checkRangeThenEven_error h

theorem matchShape_error {t : Tables} {fam : Family} {toks : List Text} {k : ErrorKind} (h : matchShape t fam toks = .error k) :
    k = .malformedOperands := by
  unfold matchShape at h
  split at h <;> cases h
  rfl

theorem matchShape_of_bindShape_none {t : Tables} {fam : Family} {toks : List Text} (h : bindShape t fam.shape toks = none) :
    matchShape t fam toks = .error .malformedOperands := by
  simp [matchShape, h]

theorem lookup_family_nil : lookup [] Tables.contents.family = none := lookup_family_eq_none.2 (by decide)

namespace Machine

/-! One call on a line, by the parts of rule R70. -/

/-- A line whose mnemonic is in no table (rules R76, R77). -/
theorem parse_of_family_none {s : State} (h : lookup s.lineMnemonic Tables.contents.family = none) :
    parse Tables.contents s.input = .error .unrecognizedMnemonic := by
  unfold State.lineMnemonic at h
  simp only [parse, h, ite_self]

/-- A line whose mnemonic is in the table: the operand tokens, their shape, the instruction (rule R70). -/
theorem parse_of_family {s : State} {fam : Family} (h : lookup s.lineMnemonic Tables.contents.family = some fam) :
    parse Tables.contents s.input =
      s.lineOperands.bind fun toks => (matchShape Tables.contents fam toks).bind fun ops =>
        (bindOperands s.lineMnemonic ops).elim (.error .malformedOperands) .ok := by
  have hne : s.lineMnemonic ≠ [] := by
    intro hnil
    rw [hnil, lookup_family_nil] at h
    cases h
  unfold State.lineMnemonic at h hne
  simp only [parse, h, hne, if_false, State.lineOperands, State.lineMnemonic]
  cases splitOperands (splitMnemonic (trim (foldText s.input))).2 with
  | error k => rfl
  | ok toks =>
    cases hshape : matchShape Tables.contents fam toks with
    | error k => simp [hshape, Except.bind]
    | ok ops => cases hbind : bindOperands (splitMnemonic (trim (foldText s.input))).1 ops <;> simp [hshape, hbind, Except.bind]

/-- Once the mnemonic is known, parsing raises MalformedOperands and no other kind (rules R75, R78). -/
theorem parse_error_of_family {s : State} {fam : Family} {k : ErrorKind}
    (h : lookup s.lineMnemonic Tables.contents.family = some fam) (hparse : parse Tables.contents s.input = .error k) :
    k = .malformedOperands := by
  rw [parse_of_family h] at hparse
  cases hops : s.lineOperands with
  | error e =>
    rw [hops] at hparse
    cases hparse
    exact splitOperands_error hops
  | ok toks =>
    rw [hops] at hparse
    cases hshape : matchShape Tables.contents fam toks with
    | error e =>
      simp only [Except.bind, hshape] at hparse
      cases hparse
      exact matchShape_error hshape
    | ok ops =>
      simp only [Except.bind, hshape] at hparse
      cases hbind : bindOperands s.lineMnemonic ops with
      | none => rw [hbind] at hparse; cases hparse; rfl
      | some i => rw [hbind] at hparse; cases hparse

/-- Inversion of a parse: the operands bound in the family's shape, and the instruction they make. -/
theorem parse_eq_ok {s : State} {i : Instr} (h : parse Tables.contents s.input = .ok i) :
    ∃ fam toks ops, lookup s.lineMnemonic Tables.contents.family = some fam ∧ s.lineOperands = .ok toks ∧
      bindShape Tables.contents fam.shape toks = some ops ∧ bindOperands s.lineMnemonic ops = some i := by
  cases hfam : lookup s.lineMnemonic Tables.contents.family with
  | none => rw [parse_of_family_none hfam] at h; cases h
  | some fam =>
    rw [parse_of_family hfam] at h
    cases hops : s.lineOperands with
    | error k => rw [hops] at h; cases h
    | ok toks =>
      cases hshape : bindShape Tables.contents fam.shape toks with
      | none => simp [hops, Except.bind, matchShape, hshape] at h
      | some ops =>
        cases hbind : bindOperands s.lineMnemonic ops with
        | none => simp [hops, Except.bind, matchShape, hshape, hbind] at h
        | some j =>
          simp only [hops, Except.bind, matchShape, hshape, hbind, Option.elim] at h
          cases h
          exact ⟨fam, toks, ops, rfl, rfl, hshape, hbind⟩

theorem step_of_family_none {s : State} (hs : s.Ready) (h : lookup s.lineMnemonic Tables.contents.family = none) :
    step s = .next (s.answer (.error .unrecognizedMnemonic)) := by
  rw [step_of_ready hs, encodeText_of_parse_error (parse_of_family_none h)]

/-- Once the mnemonic is known, a call does not answer UnrecognizedMnemonic (rules R401, R403). -/
theorem encodeText_ne_unrecognized {s : State} {fam : Family} (h : lookup s.lineMnemonic Tables.contents.family = some fam) :
    encodeText Tables.contents s.input ≠ .error .unrecognizedMnemonic := by
  intro hcall
  cases hparse : parse Tables.contents s.input with
  | error k =>
    rw [encodeText_of_parse_error hparse, parse_error_of_family h hparse] at hcall
    cases hcall
  | ok i =>
    rw [encodeText_of_parse_ok hparse] at hcall
    cases hcheck : i.checkImmediate with
    | none => rw [Instr.checkedWord_of_check_none hcheck] at hcall; cases hcall
    | some k =>
      rw [Instr.checkedWord_of_check_error hcheck] at hcall
      cases hcall
      rcases checkImmediate_error hcheck with h | h <;> cases h

/-- Operand tokens that do not fill the family's shape (rule R78). -/
theorem step_of_bindShape_none {s : State} {fam : Family} {toks : List Text} (hs : s.Ready)
    (hfam : lookup s.lineMnemonic Tables.contents.family = some fam) (hops : s.lineOperands = .ok toks)
    (h : bindShape Tables.contents fam.shape toks = none) : step s = .next (s.answer (.error .malformedOperands)) := by
  have hparse : parse Tables.contents s.input = .error .malformedOperands := by
    rw [parse_of_family hfam, hops]
    simp only [Except.bind, matchShape_of_bindShape_none h]
  rw [step_of_ready hs, encodeText_of_parse_error hparse]

end Machine

/-! Register tokens (rules R24, R25, R79 to R82). -/

theorem resolve_abiName : ∀ r : RegId, ∀ token ∈ abiNames[r.toNat]?, resolve Tables.contents token = some r := by decide

/-- The rows of `T_PRIMARY` are the ABI names in the order of their ids (rule R24). -/
theorem abiName_of_primary : ∀ p ∈ Tables.contents.primary, abiNames[p.2.toNat]? = some p.1 := by decide

theorem digitByte_of_digitValue {b : Byte} {d : Nat} (h : digitValue b = some d) : d < 10 ∧ b = digitByte d := by
  obtain ⟨hb, rfl⟩ := digitValue_eq_some.1 h
  exact ⟨by omega, BitVec.eq_of_toNat_eq (by simp [digitByte]; omega)⟩

/-- A canonical numeral is the decimal numeral of its number (rule R82). -/
theorem eq_decimal_of_canonicalNumeral {x : Text} {n : Nat} (h : canonicalNumeral x = some n) : x = decimal n := by
  have hone : ∀ d < 10, [digitByte d] = decimal d := by decide
  have htwo : ∀ d < 10, ∀ e < 10, d ≠ 0 → [digitByte d, digitByte e] = decimal (d * 10 + e) := by decide
  unfold canonicalNumeral at h
  split at h
  next a =>
    obtain ⟨hd, rfl⟩ := digitByte_of_digitValue h
    exact hone n hd
  next a b =>
    split at h
    next d e hd he =>
      obtain ⟨hd10, rfl⟩ := digitByte_of_digitValue hd
      obtain ⟨he10, rfl⟩ := digitByte_of_digitValue he
      split_ifs at h with hzero
      cases h
      exact htwo d hd10 e he10 hzero
    next => cases h
  next => cases h

/-- A canonical register name is `x` and the decimal numeral of its id (rule R82). -/
theorem eq_printReg_of_canonicalRegister {x : Text} {r : RegId} (h : canonicalRegister x = some r) : x = printReg r := by
  unfold canonicalRegister at h
  split at h
  next => cases h
  next c numeral =>
    split_ifs at h with hx
    split at h
    next => cases h
    next n hn =>
      split_ifs at h with hle
      cases h
      have hr : (BitVec.ofNat 5 n).toNat = n := by simp; omega
      rw [printReg, hr, hx, eq_decimal_of_canonicalNumeral hn]

/-- A token resolves exactly when it is an ABI name, `fp`, or a canonical name (rule R79). -/
theorem resolve_eq_some {token : Text} {r : RegId} :
    resolve Tables.contents token = some r ↔
      abiNames[r.toNat]? = some token ∨ (token = ascii ['f', 'p'] ∧ r = 8#5) ∨ token = printReg r := by
  constructor
  · intro h
    unfold resolve at h
    split at h
    next id hprimary =>
      cases h
      exact .inl (abiName_of_primary _ (mem_of_lookup hprimary))
    next =>
      split at h
      next name hsecondary =>
        obtain ⟨rfl, rfl⟩ := Prod.mk.inj (List.mem_singleton.1 (mem_of_lookup hsecondary))
        have hs0 : lookup (ascii ['s', '0']) Tables.contents.primary = some 8#5 := by decide
        rw [hs0] at h
        cases h
        exact .inr (.inl ⟨rfl, rfl⟩)
      next => exact .inr (.inr (eq_printReg_of_canonicalRegister h))
  · rintro (h | ⟨rfl, rfl⟩ | rfl)
    · exact resolve_abiName r token h
    · decide
    · exact resolve_printReg r

/-- How many tokens of a shape are register tokens; they stand first (rule R78). -/
def Shape.regCount : Shape → Nat
  | .regRegReg => 3
  | .regRegImm => 2
  | .regMem => 1
  | .regImm => 1
  | .noOperand => 0

theorem regPositions_eq_range (fam : Family) : regPositions fam = List.range fam.shape.regCount := by cases fam <;> rfl

/-- The register tokens of a list that fills a shape resolve (rules R78, R79). -/
theorem resolve_of_bindShape {t : Tables} {shape : Shape} {toks : List Text} {ops : Operands} (h : bindShape t shape toks = some ops) :
    ∀ token ∈ toks.take shape.regCount, resolve t token ≠ none := by
  obtain ⟨rfl, a, b, c, x, y, z, rfl, ha, hb, hc, -⟩ | ⟨rfl, a, b, c, x, y, v, rfl, ha, hb, -⟩ | ⟨rfl, a, m, x, v, y, rfl, ha, -⟩ |
    ⟨rfl, a, c, x, v, rfl, ha, -⟩ | ⟨rfl, rfl, -⟩ := bindShape_eq_some h
  · simp [Shape.regCount, ha, hb, hc]
  · simp [Shape.regCount, ha, hb]
  · simp [Shape.regCount, ha]
  · simp [Shape.regCount, ha]
  · simp

/-- A register position whose token does not resolve (rule R79). -/
theorem bindShape_of_unresolved {t : Tables} {fam : Family} {toks : List Text} {n : Nat} {token : Text} (hn : n ∈ regPositions fam)
    (hget : toks[n]? = some token) (h : resolve t token = none) : bindShape t fam.shape toks = none := by
  rw [regPositions_eq_range, List.mem_range] at hn
  have hmem : token ∈ toks.take fam.shape.regCount := List.mem_of_getElem? (by rw [List.getElem?_take_of_lt hn, hget])
  exact Option.eq_none_iff_forall_ne_some.2 fun _ hops => resolve_of_bindShape hops token hmem h

/-- A second token that is no memory operand, where the shape asks for one (rule R85). -/
theorem bindShape_regMem_of_memToken_none {t : Tables} {toks : List Text} {token : Text} (hget : toks[1]? = some token)
    (h : memToken t token = none) : bindShape t .regMem toks = none := by
  refine Option.eq_none_iff_forall_ne_some.2 fun ops hops => ?_
  obtain ⟨hshape, -⟩ | ⟨hshape, -⟩ | ⟨-, a, m, x, v, y, rfl, -, hm, -⟩ | ⟨hshape, -⟩ | ⟨hshape, -⟩ := bindShape_eq_some hops
  · cases hshape
  · cases hshape
  · cases hget
    rw [h] at hm
    cases hm
  · cases hshape
  · cases hshape

open Machine

/-- Settles O28: the keys of `T_FAMILY` are the 41 mnemonics, a line outside them raises the error, and no later part of a call does. -/
theorem unrecognizedExactlyOutsideTheMnemonicTable : Obligations.UnrecognizedExactlyOutsideTheMnemonicTable := by
  unfold Obligations.UnrecognizedExactlyOutsideTheMnemonicTable
  refine ⟨fun s hs => ⟨fun hstep => ?_, fun h => step_of_family_none hs (lookup_family_eq_none.2 h)⟩, by decide, fun m fam => ?_,
    examplesHold_of_encodeText (by decide)⟩
  · rw [step_of_ready hs] at hstep
    have hcall := State.answer_injective (Host.Outcome.next.inj hstep)
    refine lookup_family_eq_none.1 (Option.eq_none_iff_forall_ne_some.2 fun fam hfam => ?_)
    exact encodeText_ne_unrecognized hfam hcall
  · rw [lookup_family_eq_some, family_eq_rows]
    simp only [List.mem_append, mem_familyRows, or_assoc]

/-- Settles O29: the three kinds of names are the three lookups of `resolve`; a shape with a token that fails to resolve binds nothing. -/
theorem registerTokensResolveAsRuled : Obligations.RegisterTokensResolveAsRuled := by
  unfold Obligations.RegisterTokensResolveAsRuled
  refine ⟨fun _ _ => resolve_eq_some, fun s hs fam toks hfam hops => ⟨fun n hn token hget hnone => ?_, fun I R hmem hget _ hnone => ?_⟩,
    examplesHold_of_encodeText (by decide)⟩
  · exact step_of_bindShape_none hs hfam hops (bindShape_of_unresolved hn hget hnone)
  · have hshape : fam.shape = .regMem := by rcases hmem with rfl | rfl <;> rfl
    refine step_of_bindShape_none hs hfam hops ?_
    rw [hshape]
    exact bindShape_regMem_of_memToken_none hget (memToken_of_base_unresolved hnone)

end Sys2Proof
end

section
/-! PROOFS. The words a call yields (30_encoding.md sections 6 to 8): each lies in exactly one row of the opcode table, the row of the
line's mnemonic. -/

namespace Sys2Proof

/-! The instruction a mnemonic binds is an instruction of that mnemonic (rule R77). -/

/-- Whatever a binder makes is an instruction of mnemonic `m`. -/
def BindsMnemonic (m : Text) (binder : Operands → Option Instr) : Prop := ∀ ops i, binder ops = some i → i.mnemonic = m

theorem bindsMnemonic_ofRegRegReg {m : Text} {c : RegId → RegId → RegId → Instr} : BindsMnemonic m (ofRegRegReg c) ↔ ∀ x y z, (c x y z).mnemonic = m := by
  refine ⟨fun h x y z => h (.regRegReg x y z) _ rfl, fun h ops i hops => ?_⟩
  cases ops <;> cases hops
  exact h _ _ _

theorem bindsMnemonic_ofRegRegImm {m : Text} {c : RegId → RegId → Int → Instr} : BindsMnemonic m (ofRegRegImm c) ↔ ∀ x y v, (c x y v).mnemonic = m := by
  refine ⟨fun h x y v => h (.regRegImm x y v) _ rfl, fun h ops i hops => ?_⟩
  cases ops <;> cases hops
  exact h _ _ _

theorem bindsMnemonic_ofRegMem {m : Text} {c : RegId → RegId → Int → Instr} : BindsMnemonic m (ofRegMem c) ↔ ∀ x y v, (c x y v).mnemonic = m := by
  refine ⟨fun h x y v => h (.regMem x v y) _ rfl, fun h ops i hops => ?_⟩
  cases ops <;> cases hops
  exact h _ _ _

theorem bindsMnemonic_ofRegImm {m : Text} {c : RegId → Int → Instr} : BindsMnemonic m (ofRegImm c) ↔ ∀ x v, (c x v).mnemonic = m := by
  refine ⟨fun h x v => h (.regImm x v) _ rfl, fun h ops i hops => ?_⟩
  cases ops <;> cases hops
  exact h _ _

theorem bindsMnemonic_ofNoOperand {m : Text} {i : Instr} : BindsMnemonic m (ofNoOperand i) ↔ i.mnemonic = m := by
  refine ⟨fun h => h .noOperand _ rfl, fun h ops j hops => ?_⟩
  cases ops <;> cases hops
  exact h

/-- Each row of the binder tables makes instructions of its own mnemonic (rule R77). -/
theorem bindsMnemonic_of_mem : ∀ p ∈ rBinders ++ iArithBinders ++ iLoadJalrBinders ++ iShiftBinders ++ sBinders ++ bBinders ++ uBinders ++
    jBinders ++ fixedBinders, BindsMnemonic p.1 p.2 := by
  simp [rBinders, iArithBinders, iLoadJalrBinders, iShiftBinders, sBinders, bBinders, uBinders, jBinders, fixedBinders,
    bindsMnemonic_ofRegRegReg, bindsMnemonic_ofRegRegImm, bindsMnemonic_ofRegMem, bindsMnemonic_ofRegImm, bindsMnemonic_ofNoOperand,
    Instr.mnemonic]

/-- `bindOperands` makes an instruction of the mnemonic it is given (rules R77, R78). -/
theorem mnemonic_of_bindOperands {m : Text} {ops : Operands} {i : Instr} (h : bindOperands m ops = some i) : i.mnemonic = m := by
  unfold bindOperands at h
  split at h
  next => cases h
  next binder hbinder => exact bindsMnemonic_of_mem _ (mem_of_lookup hbinder) ops i h

/-! The rows of the opcode table (rules R114, R118). -/

/-- A word is its fields in R format (rule R91). -/
theorem eq_fmtR_fields (w : Word) : w = fmtR (funct7Of w) (rs2Of w) (rs1Of w) (funct3Of w) (rdOf w) (opcodeOf w) := by
  simp only [fmtR, funct7Of, rs2Of, rs1Of, funct3Of, rdOf, opcodeOf, BitVec.extractLsb'_append_extractLsb'_eq_extractLsb',
    BitVec.extractLsb'_eq_self]

/-- Words of six fields meet field by field. -/
theorem and_of_six {a b c d e f : Nat} (u u' : BitVec a) (v v' : BitVec b) (w w' : BitVec c) (x x' : BitVec d) (y y' : BitVec e)
    (z z' : BitVec f) : (u ++ v ++ w ++ x ++ y ++ z) &&& (u' ++ v' ++ w' ++ x' ++ y' ++ z') =
      (u &&& u') ++ (v &&& v') ++ (w &&& w') ++ (x &&& x') ++ (y &&& y') ++ (z &&& z') := by
  simp only [BitVec.and_append]

theorem fmtR_and (f7 g7 : BitVec 7) (a c b d : RegId) (f3 g3 : BitVec 3) (x y : RegId) (op oq : BitVec 7) :
    fmtR f7 a b f3 x op &&& fmtR g7 c d g3 y oq = fmtR (f7 &&& g7) (a &&& c) (b &&& d) (f3 &&& g3) (x &&& y) (op &&& oq) :=
  and_of_six f7 g7 a c b d f3 g3 x y op oq

/-- The mask of a row with funct7, funct3 and opcode keeps these three fields. -/
theorem and_mask_of_funct7 (w : Word) : w &&& 0xFE00707F#32 = fmtR (funct7Of w) 0#5 0#5 (funct3Of w) 0#5 (opcodeOf w) := by
  have hmask : 0xFE00707F#32 = fmtR (BitVec.allOnes 7) 0#5 0#5 (BitVec.allOnes 3) 0#5 (BitVec.allOnes 7) := by decide
  conv_lhs => rw [eq_fmtR_fields w, hmask, fmtR_and]
  simp only [BitVec.and_allOnes, BitVec.and_zero]

/-- The mask of a row with funct3 and opcode keeps these two fields. -/
theorem and_mask_of_funct3 (w : Word) : w &&& 0x0000707F#32 = fmtR 0#7 0#5 0#5 (funct3Of w) 0#5 (opcodeOf w) := by
  have hmask : 0x0000707F#32 = fmtR 0#7 0#5 0#5 (BitVec.allOnes 3) 0#5 (BitVec.allOnes 7) := by decide
  conv_lhs => rw [eq_fmtR_fields w, hmask, fmtR_and]
  simp only [BitVec.and_allOnes, BitVec.and_zero]

/-- The mask of a row with an opcode alone keeps it. -/
theorem and_mask_of_opcode (w : Word) : w &&& 0x0000007F#32 = fmtR 0#7 0#5 0#5 0#3 0#5 (opcodeOf w) := by
  have hmask : 0x0000007F#32 = fmtR 0#7 0#5 0#5 0#3 0#5 (BitVec.allOnes 7) := by decide
  conv_lhs => rw [eq_fmtR_fields w, hmask, fmtR_and]
  simp only [BitVec.and_allOnes, BitVec.and_zero]

/-- A word matches a row of the opcode table that has this mnemonic. -/
def LiesInRow (m : Text) (w : Word) : Prop := ∃ row ∈ opcodeTable, row.mnemonic = m ∧ row.matchesWord w = true

theorem liesInRow_of_mask {m : Text} {mask value w : Word} (hrow : ⟨m, mask, value⟩ ∈ opcodeTable) (h : w &&& mask = value) :
    LiesInRow m w :=
  ⟨_, hrow, rfl, beq_iff_eq.2 h⟩

section
variable {m : Text} {f7 : BitVec 7} {f3 : BitVec 3} {op : BitVec 7}

theorem liesInRow_fmtR {rs2 rs1 rd : RegId} (hrow : ⟨m, 0xFE00707F#32, fmtR f7 0#5 0#5 f3 0#5 op⟩ ∈ opcodeTable) :
    LiesInRow m (fmtR f7 rs2 rs1 f3 rd op) := by
  obtain ⟨h7, -, -, h3, -, hop⟩ := fmtR_fields f7 rs2 rs1 f3 rd op
  exact liesInRow_of_mask hrow (by rw [and_mask_of_funct7, h7, h3, hop])

theorem liesInRow_fmtIShift {sh : BitVec 5} {rs1 rd : RegId} (hrow : ⟨m, 0xFE00707F#32, fmtR f7 0#5 0#5 f3 0#5 op⟩ ∈ opcodeTable) :
    LiesInRow m (fmtIShift f7 sh rs1 f3 rd op) := by
  obtain ⟨h7, -, -, h3, -, hop⟩ := fmtIShift_fields f7 sh rs1 f3 rd op
  exact liesInRow_of_mask hrow (by rw [and_mask_of_funct7, h7, h3, hop])

theorem liesInRow_fmtI {imm : BitVec 12} {rs1 rd : RegId} (hrow : ⟨m, 0x0000707F#32, fmtR 0#7 0#5 0#5 f3 0#5 op⟩ ∈ opcodeTable) :
    LiesInRow m (fmtI imm rs1 f3 rd op) := by
  obtain ⟨-, -, h3, -, hop⟩ := fmtI_fields imm rs1 f3 rd op
  exact liesInRow_of_mask hrow (by rw [and_mask_of_funct3, h3, hop])

theorem liesInRow_fmtS {imm : BitVec 12} {rs2 rs1 : RegId} (hrow : ⟨m, 0x0000707F#32, fmtR 0#7 0#5 0#5 f3 0#5 op⟩ ∈ opcodeTable) :
    LiesInRow m (fmtS imm rs2 rs1 f3 op) := by
  obtain ⟨-, -, -, h3, -, hop⟩ := fmtS_fields imm rs2 rs1 f3 op
  exact liesInRow_of_mask hrow (by rw [and_mask_of_funct3, h3, hop])

theorem liesInRow_fmtB {imm : BitVec 13} {rs2 rs1 : RegId} (hrow : ⟨m, 0x0000707F#32, fmtR 0#7 0#5 0#5 f3 0#5 op⟩ ∈ opcodeTable) :
    LiesInRow m (fmtB imm rs2 rs1 f3 op) := by
  obtain ⟨-, -, -, -, h3, -, -, hop⟩ := fmtB_fields imm rs2 rs1 f3 op
  exact liesInRow_of_mask hrow (by rw [and_mask_of_funct3, h3, hop])

theorem liesInRow_fmtU {imm : BitVec 20} {rd : RegId} (hrow : ⟨m, 0x0000007F#32, fmtR 0#7 0#5 0#5 0#3 0#5 op⟩ ∈ opcodeTable) :
    LiesInRow m (fmtU imm rd op) := by
  obtain ⟨-, -, hop⟩ := fmtU_fields imm rd op
  exact liesInRow_of_mask hrow (by rw [and_mask_of_opcode, hop])

theorem liesInRow_fmtJ {imm : BitVec 21} {rd : RegId} (hrow : ⟨m, 0x0000007F#32, fmtR 0#7 0#5 0#5 0#3 0#5 op⟩ ∈ opcodeTable) :
    LiesInRow m (fmtJ imm rd op) := by
  obtain ⟨-, -, -, -, -, hop⟩ := fmtJ_fields imm rd op
  exact liesInRow_of_mask hrow (by rw [and_mask_of_opcode, hop])

end

theorem liesInRow_of_fixedWord {m : Text} {w : Word} (hrow : ⟨m, 0xFFFFFFFF#32, w⟩ ∈ opcodeTable) : LiesInRow m w :=
  liesInRow_of_mask hrow BitVec.and_allOnes

/-- The word of every instruction lies in the row of its mnemonic (rules R114, R118). -/
theorem encode_liesInRow (i : Instr) : LiesInRow i.mnemonic (encode i) := by
  cases i <;> dsimp only [Instr.mnemonic]
  case add | sub | sll | slt | sltu | xor | srl | sra | or | and => exact liesInRow_fmtR (by decide)
  case addi | slti | sltiu | xori | ori | andi | lb | lh | lw | lbu | lhu | jalr => exact liesInRow_fmtI (by decide)
  case slli | srli | srai => exact liesInRow_fmtIShift (by decide)
  case sb | sh | sw => exact liesInRow_fmtS (by decide)
  case beq | bne | blt | bge | bltu | bgeu => exact liesInRow_fmtB (by decide)
  case lui | auipc => exact liesInRow_fmtU (by decide)
  case jal => exact liesInRow_fmtJ (by decide)
  case ecall | ebreak | fenceTso | pause => exact liesInRow_of_fixedWord (by decide)

/-- Where the masks of two rows both look, their values differ (rule R114). -/
theorem opcodeTable_pairwise_differ :
    opcodeTable.Pairwise fun p q => p.value &&& (p.mask &&& q.mask) ≠ q.value &&& (p.mask &&& q.mask) := by decide

/-- So no word matches two rows. -/
theorem not_matchesWord_both {p q : OpcodeRow} {w : Word} (h : p.value &&& (p.mask &&& q.mask) ≠ q.value &&& (p.mask &&& q.mask)) :
    ¬ (p.matchesWord w = true ∧ q.matchesWord w = true) := by
  rintro ⟨hp, hq⟩
  simp only [OpcodeRow.matchesWord, beq_iff_eq] at hp hq
  apply h
  rw [← hp, ← hq]
  ext i hi
  simp only [BitVec.getElem_and]
  grind

/-- In a list no two of whose members satisfy `P`, a member that does is the whole filter. -/
theorem filter_eq_singleton {α : Type} {P : α → Bool} {l : List α} {a : α} (hl : l.Pairwise fun x y => ¬ (P x = true ∧ P y = true))
    (hmem : a ∈ l) (ha : P a = true) : l.filter P = [a] := by
  induction l with
  | nil => cases hmem
  | cons b l ih =>
    obtain ⟨hb, hl⟩ := List.pairwise_cons.1 hl
    rcases List.mem_cons.1 hmem with rfl | hmem
    · rw [List.filter_cons_of_pos ha, List.filter_eq_nil_iff.2 fun x hx hP => hb x hx ⟨ha, hP⟩]
    · rw [List.filter_cons_of_neg fun hP => hb a hmem ⟨hP, ha⟩, ih hl hmem]

/-- The row a word lies in is the only one it matches (rule R114). -/
theorem filter_matchesWord_of_liesInRow {m : Text} {w : Word} (h : LiesInRow m w) :
    (opcodeTable.filter fun row => row.matchesWord w).map (·.mnemonic) = [m] := by
  obtain ⟨row, hmem, hm, hmatch⟩ := h
  rw [filter_eq_singleton (opcodeTable_pairwise_differ.imp not_matchesWord_both) hmem hmatch, List.map_singleton, hm]

theorem opcodeTable_low_bits : ∀ row ∈ opcodeTable, row.mask.extractLsb' 0 2 = BitVec.allOnes 2 ∧ row.value.extractLsb' 0 2 = 0b11#2 := by
  decide

/-- A word of the table is a 32-bit word by its low bits (rule R118). -/
theorem low_bits_of_liesInRow {m : Text} {w : Word} (h : LiesInRow m w) : w.extractLsb' 0 2 = 0b11#2 := by
  obtain ⟨row, hmem, -, hmatch⟩ := h
  obtain ⟨hmask, hvalue⟩ := opcodeTable_low_bits row hmem
  rw [← hvalue, ← beq_iff_eq.1 hmatch, BitVec.extractLsb'_and, hmask, BitVec.and_allOnes]

namespace Machine

/-- A call that yields a word yields the word of an instruction of the line's mnemonic (rules R77, R114). -/
theorem encodeText_eq_ok {s : State} {w : Word} (h : encodeText Tables.contents s.input = .ok w) :
    ∃ i : Instr, i.mnemonic = s.lineMnemonic ∧ i.WellFormed ∧ w = encode i := by
  cases hparse : parse Tables.contents s.input with
  | error k => rw [encodeText_of_parse_error hparse] at h; cases h
  | ok i =>
    rw [encodeText_of_parse_ok hparse] at h
    obtain ⟨-, -, ops, -, -, -, hbind⟩ := parse_eq_ok hparse
    cases hcheck : i.checkImmediate with
    | some k => rw [Instr.checkedWord_of_check_error hcheck] at h; cases h
    | none =>
      rw [Instr.checkedWord_of_check_none hcheck] at h
      cases h
      exact ⟨i, mnemonic_of_bindOperands hbind, (checkImmediate_eq_none i).1 hcheck, rfl⟩

end Machine

open Machine

/-- Settles O46: a yielded word is `encode i` for an instruction of the line's mnemonic, which lies in that mnemonic's row and, the rows
being disjoint, in no other. -/
theorem everyYieldedWordMatchesOneTableRow : Obligations.EveryYieldedWordMatchesOneTableRow := by
  unfold Obligations.EveryYieldedWordMatchesOneTableRow
  intro s s' _ hstep
  obtain rfl := eq_answer_of_step_next hstep
  cases hcall : encodeText Tables.contents s.input with
  | ok w =>
    obtain ⟨i, hm, -, rfl⟩ := encodeText_eq_ok hcall
    have hrow := encode_liesInRow i
    rw [hm] at hrow
    exact ⟨fun _ => ⟨filter_matchesWord_of_liesInRow hrow, low_bits_of_liesInRow hrow⟩, fun h => absurd rfl h⟩
  | error k => exact ⟨fun h => absurd h (ErrorKind_code_ne_zero k), fun _ => rfl⟩

end Sys2Proof
end

section
/-! PROOFS. Where the bits of an immediate stand in its word (30_encoding.md section 6, rules R100 to R102). -/

namespace Sys2Proof

/-- The mask of a load or store offset is its two's-complement pattern (conflict C4). -/
theorem maskFFF_eq_tc (v : Int) : maskFFF v = tc 12 v := by
  apply BitVec.eq_of_toNat_eq
  have h := maskFFF_toNat v
  simp only [tc, BitVec.toNat_ofInt]
  omega

/-- In the range of an N-bit pattern, its top bit is the sign (rules R101, R102). -/
theorem getLsbD_tc_top {n : Nat} {v : Int} (hlo : -2 ^ n ≤ v) (hhi : v < 2 ^ n) : (tc (n + 1) v).getLsbD n = true ↔ v < 0 := by
  have hself : (tc (n + 1) v).toInt = v := BitVec.toInt_ofInt_eq_self (by omega) hlo hhi
  have hmsb : (tc (n + 1) v).msb = (tc (n + 1) v).getLsbD n := rfl
  rw [← hmsb, BitVec.msb_eq_toInt, hself, decide_eq_true_iff]

theorem fmtI_imm (imm : BitVec 12) (rs1 : RegId) (f3 : BitVec 3) (rd : RegId) (op : BitVec 7) :
    (fmtI imm rs1 f3 rd op).extractLsb' 20 12 = imm := (fmtI_fields imm rs1 f3 rd op).1

/-- The immediate bits of an S word (rule R100). -/
theorem fmtS_imm (imm : BitVec 12) (rs2 rs1 : RegId) (f3 : BitVec 3) (op : BitVec 7) :
    (fmtS imm rs2 rs1 f3 op).extractLsb' 25 7 = imm.extractLsb' 5 7 ∧ (fmtS imm rs2 rs1 f3 op).extractLsb' 7 5 = imm.extractLsb' 0 5 ∧
      (fmtS imm rs2 rs1 f3 op).extractLsb' 25 7 ++ (fmtS imm rs2 rs1 f3 op).extractLsb' 7 5 = imm := by
  obtain ⟨hhigh, -, -, -, hlow, -⟩ := fmtS_fields imm rs2 rs1 f3 op
  have hjoin : imm.extractLsb' 5 7 ++ imm.extractLsb' 0 5 = imm.extractLsb' 0 12 :=
    BitVec.extractLsb'_append_extractLsb'_eq_extractLsb' rfl
  refine ⟨hhigh, hlow, ?_⟩
  rw [hhigh, hlow, hjoin, BitVec.extractLsb'_eq_self]

/-- Equal fields of one bit have equal bits. -/
theorem getLsbD_of_extract {n m a b : Nat} {x : BitVec n} {y : BitVec m} (h : x.extractLsb' a 1 = y.extractLsb' b 1) :
    x.getLsbD a = y.getLsbD b := by
  simpa using congrArg (fun z => z.getLsbD 0) h

/-- The offset bits of a B word; its top bit is the sign of an offset in range (rule R101). -/
theorem fmtB_offset (v : Int) (rs2 rs1 : RegId) (f3 : BitVec 3) (op : BitVec 7) :
    (fmtB (tc 13 v) rs2 rs1 f3 op).extractLsb' 31 1 = (tc 13 v).extractLsb' 12 1 ∧
    (fmtB (tc 13 v) rs2 rs1 f3 op).extractLsb' 25 6 = (tc 13 v).extractLsb' 5 6 ∧
    (fmtB (tc 13 v) rs2 rs1 f3 op).extractLsb' 8 4 = (tc 13 v).extractLsb' 1 4 ∧
    (fmtB (tc 13 v) rs2 rs1 f3 op).extractLsb' 7 1 = (tc 13 v).extractLsb' 11 1 ∧
    (-4096 ≤ v → v ≤ 4095 → ((fmtB (tc 13 v) rs2 rs1 f3 op).getLsbD 31 = true ↔ v < 0)) := by
  obtain ⟨h12, h10, -, -, -, h4, h11, -⟩ := fmtB_fields (tc 13 v) rs2 rs1 f3 op
  refine ⟨h12, h10, h4, h11, fun hlo hhi => ?_⟩
  rw [getLsbD_of_extract h12]
  exact getLsbD_tc_top (n := 12) hlo (by omega)

/-- The offset bits of a J word; its top bit is the sign of an offset in range (rule R102). -/
theorem fmtJ_offset (v : Int) (rd : RegId) (op : BitVec 7) :
    (fmtJ (tc 21 v) rd op).extractLsb' 31 1 = (tc 21 v).extractLsb' 20 1 ∧
    (fmtJ (tc 21 v) rd op).extractLsb' 21 10 = (tc 21 v).extractLsb' 1 10 ∧
    (fmtJ (tc 21 v) rd op).extractLsb' 20 1 = (tc 21 v).extractLsb' 11 1 ∧
    (fmtJ (tc 21 v) rd op).extractLsb' 12 8 = (tc 21 v).extractLsb' 12 8 ∧
    (-1048576 ≤ v → v ≤ 1048575 → ((fmtJ (tc 21 v) rd op).getLsbD 31 = true ↔ v < 0)) := by
  obtain ⟨h20, h10, h11, h19, -, -⟩ := fmtJ_fields (tc 21 v) rd op
  refine ⟨h20, h10, h11, h19, fun hlo hhi => ?_⟩
  rw [getLsbD_of_extract h20]
  exact getLsbD_tc_top (n := 20) hlo (by omega)

/-- Patterns that agree in a field agree in every field inside it. -/
theorem extract_congr {n a len : Nat} {f g : BitVec n} (h : f.extractLsb' a len = g.extractLsb' a len) {b k : Nat} (hb : a ≤ b)
    (hk : b + k ≤ a + len) : f.extractLsb' b k = g.extractLsb' b k := by
  have hinner : ∀ x : BitVec n, x.extractLsb' b k = (x.extractLsb' a len).extractLsb' (b - a) k := by
    intro x
    ext i hi
    have hbit : a + (b - a + i) = b + i := by omega
    have hlen : b - a + i < len := by omega
    simp [hbit, hlen]
  rw [hinner f, hinner g, h]

/-- Bit 0 of the pattern is not placed in a B word (rule R101). -/
theorem fmtB_congr {f g : BitVec 13} (h : f.extractLsb' 1 12 = g.extractLsb' 1 12) (rs2 rs1 : RegId) (f3 : BitVec 3) (op : BitVec 7) :
    fmtB f rs2 rs1 f3 op = fmtB g rs2 rs1 f3 op := by
  have h12 : f.extractLsb' 12 1 = g.extractLsb' 12 1 := extract_congr h (by omega) (by omega)
  have h10 : f.extractLsb' 5 6 = g.extractLsb' 5 6 := extract_congr h (by omega) (by omega)
  have h4 : f.extractLsb' 1 4 = g.extractLsb' 1 4 := extract_congr h (by omega) (by omega)
  have h11 : f.extractLsb' 11 1 = g.extractLsb' 11 1 := extract_congr h (by omega) (by omega)
  simp only [fmtB, h12, h10, h4, h11]

/-- Bit 0 of the pattern is not placed in a J word (rule R102). -/
theorem fmtJ_congr {f g : BitVec 21} (h : f.extractLsb' 1 20 = g.extractLsb' 1 20) (rd : RegId) (op : BitVec 7) :
    fmtJ f rd op = fmtJ g rd op := by
  have h20 : f.extractLsb' 20 1 = g.extractLsb' 20 1 := extract_congr h (by omega) (by omega)
  have h10 : f.extractLsb' 1 10 = g.extractLsb' 1 10 := extract_congr h (by omega) (by omega)
  have h11 : f.extractLsb' 11 1 = g.extractLsb' 11 1 := extract_congr h (by omega) (by omega)
  have h19 : f.extractLsb' 12 8 = g.extractLsb' 12 8 := extract_congr h (by omega) (by omega)
  simp only [fmtJ, h20, h10, h11, h19]

/-- Settles O47: every `encode` of these families is its format over the two's-complement pattern, whatever the mnemonic's constants. -/
theorem immediateBitsArePlacedAsRuled : Obligations.ImmediateBitsArePlacedAsRuled := by
  unfold Obligations.ImmediateBitsArePlacedAsRuled
  refine ⟨fun a b v => ?_, fun a b v => ?_, fun a b v => ?_, fun a b f g f3 op h => fmtB_congr h a b f3 op, fun a v => fmtJ_offset v a _,
    fun a f g op h => fmtJ_congr h a op⟩
  · simp only [encode, maskFFF_eq_tc, List.forall_mem_cons, fmtI_imm, List.not_mem_nil, false_implies, implies_true, and_self]
  · have himm := fun f3 => fmtS_imm (tc 12 v) a b f3 0b0100011#7
    simp only [encode, maskFFF_eq_tc, List.forall_mem_cons, List.not_mem_nil, false_implies, implies_true, and_true]
    exact ⟨himm _, himm _, himm _⟩
  · have hoffset := fun f3 => fmtB_offset v b a f3 0b1100011#7
    simp only [encode, List.forall_mem_cons, List.not_mem_nil, false_implies, implies_true, and_true]
    exact ⟨hoffset _, hoffset _, hoffset _, hoffset _, hoffset _, hoffset _⟩

end Sys2Proof
end

section
/-! PROOFS. The two renderings of a word (30_encoding.md section 9, rules R115 and R116). -/

namespace Sys2Proof

open Rules

/-- A field is rendered as the bits of the word in its range. -/
theorem renderBits_extract (w : Word) {lo len hi : Nat} (h : hi + 1 = lo + len) (hlo : lo ≤ hi) :
    renderBits (w.extractLsb' lo len) = spellBits w hi lo := by
  have hlen : hi - lo + 1 = len := by omega
  unfold renderBits spellBits
  rw [hlen]
  refine List.map_congr_left fun i hi' => ?_
  have hi'' : i < len := List.mem_range.1 hi'
  have hbit : lo + (len - 1 - i) = hi - i := by omega
  have hpos : len - 1 - i < len := by omega
  simp [BitVec.getMsbD, hi'', hpos, hbit]

theorem render_eq_spellBits (w : Word) : render w = spellBits w 31 0 := by
  have h := renderBits_extract w (lo := 0) (len := 32) (hi := 31) (by omega) (by omega)
  rwa [BitVec.extractLsb'_eq_self] at h

/-- Two ranges of bits that meet are one range. -/
theorem spellBits_append (w : Word) {hi mid lo : Nat} (h1 : lo ≤ mid) (h2 : mid < hi) :
    spellBits w hi (mid + 1) ++ spellBits w mid lo = spellBits w hi lo := by
  unfold spellBits
  have hlen : hi - lo + 1 = (hi - (mid + 1) + 1) + (mid - lo + 1) := by omega
  rw [hlen, List.range_add (n := hi - (mid + 1) + 1), List.map_append, List.map_map]
  congr 1
  refine List.map_congr_left fun i _ => ?_
  have hbit : hi - (hi - (mid + 1) + 1 + i) = mid - i := by omega
  simp only [Function.comp_apply, hbit]

/-- A rendered range holds no space. -/
theorem ne_space_of_mem_spellBits {w : Word} {hi lo : Nat} {b : Byte} (h : b ∈ spellBits w hi lo) : b ≠ 0x20#8 := by
  obtain ⟨i, -, rfl⟩ := List.mem_map.1 h
  split <;> decide

/-- Fields with one space between them are the fields interspersed with spaces. -/
theorem joinFields_eq_intersperse (fs : List Text) : joinFields fs = (fs.intersperse [0x20#8]).flatten := by
  induction fs with
  | nil => rfl
  | cons f fs ih =>
    cases fs with
    | nil => simp [joinFields]
    | cons g gs =>
      rw [List.intersperse_cons_cons, List.flatten_cons, List.flatten_cons, ← ih]
      simp [joinFields]

/-- The delimited rendering is the bits of the fields' ranges (rule R116). -/
theorem fieldsOf_eq_spans (w : Word) (fam : Family) : fieldsOf w fam = (fieldSpans fam).map fun span => spellBits w span.1 span.2 := by
  cases fam <;>
    simp [fieldsOf, fieldSpans, funct7Of, rs2Of, rs1Of, funct3Of, rdOf, opcodeOf, renderBits_extract, render_eq_spellBits]
  

/-- Without its spaces, a delimited rendering is its fields in a row. -/
theorem filter_joinFields {fs : List Text} (h : ∀ f ∈ fs, ∀ b ∈ f, b ≠ 0x20#8) :
    (joinFields fs).filter (fun b => b != 0x20#8) = fs.flatten := by
  have hfield : ∀ f ∈ fs, f.filter (fun b => b != 0x20#8) = f := fun f hf => List.filter_eq_self.2 (by simpa using h f hf)
  cases fs with
  | nil => rfl
  | cons f fs =>
    obtain ⟨hf, hfs⟩ := List.forall_mem_cons.1 hfield
    have hspaced : (fs.map fun g => 0x20#8 :: g).map (List.filter fun b => b != 0x20#8) = fs := by
      rw [List.map_map, List.map_congr_left fun g hg => (by simpa using hfs g hg : _ = id g), List.map_id]
    rw [joinFields, List.filter_append, hf, List.filter_flatten, hspaced, List.flatten_cons]

/-- The ranges of a family, in order, are the whole word. -/
theorem flatten_spans (w : Word) (fam : Family) : ((fieldSpans fam).map fun span => spellBits w span.1 span.2).flatten = render w := by
  rw [render_eq_spellBits]
  cases fam <;> simp [fieldSpans, spellBits_append]

/-- Settles O48: every field of the model is one of the rule's bit ranges, no range holds a space, and the ranges of a family meet. -/
theorem renderingsSpellTheWord : Obligations.RenderingsSpellTheWord := by
  unfold Obligations.RenderingsSpellTheWord
  refine ⟨fun w => ⟨by simp [render, renderBits], fun i hi => ?_⟩, fun w fam => ?_, fun w => ?_, fun w fam => ?_⟩
  · simp [render_eq_spellBits, spellBits, hi]
  · rw [renderFields, fieldsOf_eq_spans, filter_joinFields, flatten_spans]
    intro f hf b hb
    obtain ⟨span, -, rfl⟩ := List.mem_map.1 hf
    exact ne_space_of_mem_spellBits hb
  · simp [renderFields, fieldsOf, joinFields]
  · rw [renderFields, fieldsOf_eq_spans, joinFields_eq_intersperse]

end Sys2Proof
end

section
/-! PROOFS. Lines of the R family (40_r_type.md, rules R200 to R210), and the two ways a line of a known mnemonic goes on: its operands
bind to an instruction, or they do not. -/

namespace Sys2Proof

open Rules

/-- The shape of three register tokens (rule R78). -/
theorem bindShape_regRegReg_eq_some {t : Tables} {toks : List Text} {ops : Operands} :
    bindShape t .regRegReg toks = some ops ↔
      ∃ a b c x y z, toks = [a, b, c] ∧ resolve t a = some x ∧ resolve t b = some y ∧ resolve t c = some z ∧ ops = .regRegReg x y z := by
  constructor
  · intro h
    obtain ⟨-, hbound⟩ | ⟨hshape, -⟩ | ⟨hshape, -⟩ | ⟨hshape, -⟩ | ⟨hshape, -⟩ := bindShape_eq_some h
    · exact hbound
    all_goals cases hshape
  · rintro ⟨a, b, c, x, y, z, rfl, ha, hb, hc, rfl⟩
    simp only [bindShape, ha, hb, hc]

/-- Any other tokens do not fill the shape: another count, or a token that is no register (rules R78, R79). -/
theorem bindShape_regRegReg_eq_none {t : Tables} {toks : List Text}
    (h : ∀ a b c, toks = [a, b, c] → resolve t a = none ∨ resolve t b = none ∨ resolve t c = none) :
    bindShape t .regRegReg toks = none := by
  refine Option.eq_none_iff_forall_ne_some.2 fun ops hops => ?_
  obtain ⟨a, b, c, x, y, z, htoks, ha, hb, hc, -⟩ := bindShape_regRegReg_eq_some.1 hops
  simpa [ha, hb, hc] using h a b c htoks

/-- Each mnemonic of rules R201 to R210 is of the R family (rule R77). -/
theorem lookup_family_of_mem_rRows : ∀ p ∈ rRows, lookup p.1 Tables.contents.family = some .r := by decide

/-- Each mnemonic of rules R201 to R210 makes, of any three registers, an instruction without an immediate check whose word has the funct7
and the funct3 of the rule. -/
theorem bindOperands_of_mem_rRows : ∀ p ∈ rRows, ∀ rd rs1 rs2, ∃ i, bindOperands p.1 (.regRegReg rd rs1 rs2) = some i ∧
    i.checkedWord = .ok (fmtR p.2.1 rs2 rs1 p.2.2 rd 0b0110011#7) := by
  simp only [rRows, List.forall_mem_cons, List.not_mem_nil, false_implies, implies_true, and_true]
  refine ⟨?add, ?sub, ?sll, ?slt, ?sltu, ?xor, ?srl, ?sra, ?or, ?and⟩
  all_goals exact fun _ _ _ => ⟨_, rfl, rfl⟩

namespace Machine

/-- Operands that bind to an instruction: the call answers that instruction's word or its immediate error (rule R70). -/
theorem step_of_bindOperands {s : State} {fam : Family} {toks : List Text} {ops : Operands} {i : Instr} (hs : s.Ready)
    (hfam : lookup s.lineMnemonic Tables.contents.family = some fam) (hops : s.lineOperands = .ok toks)
    (hshape : bindShape Tables.contents fam.shape toks = some ops) (hbind : bindOperands s.lineMnemonic ops = some i) :
    step s = .next (s.answer i.checkedWord) := by
  have hparse : parse Tables.contents s.input = .ok i := by
    rw [parse_of_family hfam, hops]
    simp only [Except.bind, matchShape, hshape, hbind, Option.elim]
  rw [step_of_ready hs, encodeText_of_parse_ok hparse]

/-- No operand tokens that fill the family's shape: a separator error, or tokens of another count or kind (rules R75, R78). -/
theorem step_of_operands_unbound {s : State} {fam : Family} (hs : s.Ready)
    (hfam : lookup s.lineMnemonic Tables.contents.family = some fam)
    (h : ∀ toks, s.lineOperands = .ok toks → bindShape Tables.contents fam.shape toks = none) :
    step s = .next (s.answer (.error .malformedOperands)) := by
  cases hops : s.lineOperands with
  | ok toks => exact step_of_bindShape_none hs hfam hops (h toks hops)
  | error k =>
    have hparse : parse Tables.contents s.input = .error k := by
      rw [parse_of_family hfam, hops]
      rfl
    rw [step_of_ready hs, encodeText_of_parse_error hparse, splitOperands_error hops]

end Machine

open Machine

/-- Settles O15: three register tokens bind to the instruction of the line's mnemonic, whose word is the rule's, and no other operand list
fills the shape; `fmtR_fields` reads the fields back. -/
theorem rLinesEncodeAsRuled : Obligations.RLinesEncodeAsRuled := by
  unfold Obligations.RLinesEncodeAsRuled
  refine ⟨?lines, fmtR_fields, examplesHold_of_encodeText (by decide)⟩
  rintro s hs m f7 f3 hrow rfl
  have hfam := lookup_family_of_mem_rRows _ hrow
  constructor
  · intro a b c rd rs1 rs2 hops ha hb hc
    obtain ⟨i, hbind, hword⟩ := bindOperands_of_mem_rRows _ hrow rd rs1 rs2
    rw [← hword]
    exact step_of_bindOperands hs hfam hops (bindShape_regRegReg_eq_some.2 ⟨a, b, c, rd, rs1, rs2, rfl, ha, hb, hc, rfl⟩) hbind
  · intro hbad
    refine step_of_operands_unbound hs hfam fun toks hops => bindShape_regRegReg_eq_none fun a b c htoks => ?_
    exact hbad a b c (by rw [hops, htoks])

end Sys2Proof
end

section
/-! PROOFS. Lines of the I-arith family (41_i_arith.md, rules R220 to R226), and what two register tokens and an immediate bind. -/

namespace Sys2Proof

open Rules Machine

/-- The shape of two register tokens and an immediate (rule R78). -/
theorem bindShape_regRegImm_eq_some {t : Tables} {toks : List Text} {ops : Operands} :
    bindShape t .regRegImm toks = some ops ↔
      ∃ a b c x y v, toks = [a, b, c] ∧ resolve t a = some x ∧ resolve t b = some y ∧ immToken c = some v ∧ ops = .regRegImm x y v := by
  constructor
  · intro h
    obtain ⟨hshape, -⟩ | ⟨-, hbound⟩ | ⟨hshape, -⟩ | ⟨hshape, -⟩ | ⟨hshape, -⟩ := bindShape_eq_some h
    case inr.inl => exact hbound
    all_goals cases hshape
  · rintro ⟨a, b, c, x, y, v, rfl, ha, hb, hc, rfl⟩
    simp only [bindShape, ha, hb, hc]

/-- Any other tokens do not fill the shape: another count, or a token of the wrong kind (rules R78, R79, R84). -/
theorem bindShape_regRegImm_eq_none {t : Tables} {toks : List Text}
    (h : ∀ a b c, toks = [a, b, c] → resolve t a = none ∨ resolve t b = none ∨ immToken c = none) :
    bindShape t .regRegImm toks = none := by
  refine Option.eq_none_iff_forall_ne_some.2 fun ops hops => ?_
  obtain ⟨a, b, c, x, y, v, htoks, ha, hb, hc, -⟩ := bindShape_regRegImm_eq_some.1 hops
  simpa [ha, hb, hc] using h a b c htoks

/-- An instruction whose check passes a 12-bit immediate answers its word (rule R86). -/
theorem checkedWord_of_fits_imm12 {i : Instr} {v : Int} (hcheck : i.checkImmediate = checkImm12 v) (h : -2048 ≤ v ∧ v ≤ 2047) :
    i.checkedWord = .ok (encode i) :=
  Instr.checkedWord_of_check_none (hcheck.trans (checkRange_in (fitsImm12_iff.2 h)))

/-- An instruction whose check refuses a 12-bit immediate answers ImmediateOutOfRange (rule R86). -/
theorem checkedWord_of_out_of_imm12 {i : Instr} {v : Int} (hcheck : i.checkImmediate = checkImm12 v) (h : v < -2048 ∨ 2047 < v) :
    i.checkedWord = .error .immediateOutOfRange := by
  have hout : ¬ fitsImm12 v = true := by rw [fitsImm12_iff]; omega
  exact Instr.checkedWord_of_check_error (hcheck.trans (checkRange_out hout))

/-- Each mnemonic of rules R221 to R226 is of the I-arith family (rule R77). -/
theorem lookup_family_of_mem_iArithRows : ∀ p ∈ iArithRows, lookup p.1 Tables.contents.family = some .iArith := by decide

/-- Each mnemonic of rules R221 to R226 makes, of any two registers and any integer, an instruction with the 12-bit check of rule R86 whose
word has the funct3 of the rule. -/
theorem bindOperands_of_mem_iArithRows : ∀ p ∈ iArithRows, ∀ rd rs1 imm, ∃ i, bindOperands p.1 (.regRegImm rd rs1 imm) = some i ∧
    i.checkImmediate = checkImm12 imm ∧ encode i = fmtI (tc 12 imm) rs1 p.2 rd 0b0010011#7 := by
  simp only [iArithRows, List.forall_mem_cons, List.not_mem_nil, false_implies, implies_true, and_true]
  refine ⟨?addi, ?slti, ?sltiu, ?xori, ?ori, ?andi⟩
  all_goals exact fun _ _ _ => ⟨_, rfl, rfl, rfl⟩

/-- Settles O16: two register tokens and an immediate token bind to the instruction of the line's mnemonic, whose 12-bit check decides
between the rule's word and the range error, and no other operand list fills the shape. -/
theorem iArithLinesEncodeAsRuled : Obligations.IArithLinesEncodeAsRuled := by
  unfold Obligations.IArithLinesEncodeAsRuled
  refine ⟨?lines, examplesHold_of_encodeText (by decide)⟩
  rintro s hs m f3 hrow rfl
  have hfam := lookup_family_of_mem_iArithRows _ hrow
  constructor
  · intro a b v rd rs1 imm hops ha hb hv
    obtain ⟨i, hbind, hcheck, hword⟩ := bindOperands_of_mem_iArithRows _ hrow rd rs1 imm
    have hstep : step s = .next (s.answer i.checkedWord) :=
      step_of_bindOperands hs hfam hops (bindShape_regRegImm_eq_some.2 ⟨a, b, v, rd, rs1, imm, rfl, ha, hb, hv, rfl⟩) hbind
    constructor
    · intro hin
      rw [hstep, checkedWord_of_fits_imm12 hcheck hin, hword]
    · intro hout
      rw [hstep, checkedWord_of_out_of_imm12 hcheck hout]
  · intro hbad
    refine step_of_operands_unbound hs hfam fun toks hops => bindShape_regRegImm_eq_none fun a b v htoks => ?_
    exact hbad a b v (by rw [hops, htoks])

end Sys2Proof
end

section
/-! PROOFS. Lines of the I-load/jalr family (42_i_load_jalr.md, rules R240 to R246), and what a call answers on a line of any family that
takes a register and a memory operand. -/

namespace Sys2Proof

open Rules

/-- The shape of a register token and a memory-operand token (rule R78). -/
theorem bindShape_regMem_eq_some {t : Tables} {toks : List Text} {ops : Operands} :
    bindShape t .regMem toks = some ops ↔
      ∃ a m x v y, toks = [a, m] ∧ resolve t a = some x ∧ memToken t m = some (v, y) ∧ ops = .regMem x v y := by
  constructor
  · intro h
    obtain ⟨hshape, -⟩ | ⟨hshape, -⟩ | ⟨-, hbound⟩ | ⟨hshape, -⟩ | ⟨hshape, -⟩ := bindShape_eq_some h
    case inr.inr.inl => exact hbound
    all_goals cases hshape
  · rintro ⟨a, m, x, v, y, rfl, ha, hm, rfl⟩
    simp only [bindShape, ha, hm]

/-- Any other tokens do not fill the shape: another count, or a token of the wrong kind (rules R78, R79, R85). -/
theorem bindShape_regMem_eq_none {t : Tables} {toks : List Text}
    (h : ∀ a m, toks = [a, m] → resolve t a = none ∨ memToken t m = none) : bindShape t .regMem toks = none := by
  refine Option.eq_none_iff_forall_ne_some.2 fun ops hops => ?_
  obtain ⟨a, m, x, v, y, htoks, ha, hm, -⟩ := bindShape_regMem_eq_some.1 hops
  simpa [ha, hm] using h a m htoks

namespace Machine

section
variable {s : State} {fam : Family} (hs : s.Ready) (hfam : lookup s.lineMnemonic Tables.contents.family = some fam)
  (hshape : fam.shape = .regMem)
include hs hfam hshape

/-- A register and a memory operand that bind to an instruction with the 12-bit check: the offset decides between the instruction's word
and ImmediateOutOfRange (rules R70, R86). -/
theorem step_of_regMem_imm12 {a m : Text} {x base : RegId} {offset : Int} {i : Instr} (hops : s.lineOperands = .ok [a, m])
    (ha : resolve Tables.contents a = some x) (hm : memToken Tables.contents m = some (offset, base))
    (hbind : bindOperands s.lineMnemonic (.regMem x offset base) = some i) (hcheck : i.checkImmediate = checkImm12 offset) :
    (-2048 ≤ offset ∧ offset ≤ 2047 → step s = .next (s.answer (.ok (encode i)))) ∧
    (offset < -2048 ∨ 2047 < offset → step s = .next (s.answer (.error .immediateOutOfRange))) := by
  have hbound : bindShape Tables.contents fam.shape [a, m] = some (.regMem x offset base) := by
    rw [hshape]
    exact bindShape_regMem_eq_some.2 ⟨a, m, x, offset, base, rfl, ha, hm, rfl⟩
  have hstep : step s = .next (s.answer i.checkedWord) := step_of_bindOperands hs hfam hops hbound hbind
  constructor
  · intro hin
    rw [hstep, checkedWord_of_fits_imm12 hcheck hin]
  · intro hout
    rw [hstep, checkedWord_of_out_of_imm12 hcheck hout]

/-- Anything but a register token and a memory-operand token, a separator error included (rules R75, R78). -/
theorem step_of_not_regMem
    (h : ∀ a m, s.lineOperands = .ok [a, m] → resolve Tables.contents a = none ∨ memToken Tables.contents m = none) :
    step s = .next (s.answer (.error .malformedOperands)) := by
  refine step_of_operands_unbound hs hfam fun toks hops => ?_
  rw [hshape]
  exact bindShape_regMem_eq_none fun a m htoks => h a m (by rw [hops, htoks])

end

end Machine

/-- Each mnemonic of rules R241 to R246 is of the I-load/jalr family (rule R77). -/
theorem lookup_family_of_mem_iLoadJalrRows : ∀ p ∈ iLoadJalrRows, lookup p.1 Tables.contents.family = some .iLoadJalr := by decide

/-- Each mnemonic of rules R241 to R246 makes, of a register and any memory operand, an instruction with the 12-bit check of rule R86 whose
word has the funct3 and the opcode of the rule. -/
theorem bindOperands_of_mem_iLoadJalrRows : ∀ p ∈ iLoadJalrRows, ∀ rd rs1 offset, ∃ i,
    bindOperands p.1 (.regMem rd offset rs1) = some i ∧ i.checkImmediate = checkImm12 offset ∧
      encode i = fmtI (maskFFF offset) rs1 p.2.1 rd p.2.2 := by
  simp only [iLoadJalrRows, List.forall_mem_cons, List.not_mem_nil, false_implies, implies_true, and_true]
  refine ⟨?lb, ?lh, ?lw, ?lbu, ?lhu, ?jalr⟩
  all_goals exact fun _ _ _ => ⟨_, rfl, rfl, rfl⟩

open Machine

/-- Settles O17: a register token and a memory-operand token bind to the instruction of the line's mnemonic, whose 12-bit check decides
between the rule's word and the range error, and no other operand list fills the shape; the mask is the value mod 4096, so it is `tc_12`. -/
theorem loadAndJalrLinesEncodeAsRuled : Obligations.LoadAndJalrLinesEncodeAsRuled := by
  unfold Obligations.LoadAndJalrLinesEncodeAsRuled
  refine ⟨?lines, fun v => ⟨maskFFF_toNat v, maskFFF_eq_tc v⟩, examplesHold_of_encodeText (by decide)⟩
  rintro s hs m f3 op hrow rfl
  have hfam := lookup_family_of_mem_iLoadJalrRows _ hrow
  refine ⟨fun a v rd offset rs1 hops ha hv => ?_, step_of_not_regMem hs hfam rfl⟩
  obtain ⟨i, hbind, hcheck, hword⟩ := bindOperands_of_mem_iLoadJalrRows _ hrow rd rs1 offset
  rw [← hword]
  exact step_of_regMem_imm12 hs hfam rfl hops ha hv hbind hcheck

end Sys2Proof
end

section
/-! PROOFS. Lines of the I-shift family (43_i_shift.md, rules R260 to R263), and what a call answers on a line of any family that takes two
registers and an immediate. -/

namespace Sys2Proof

open Rules

/-- An instruction whose check passes a shift amount answers its word (rule R87). -/
theorem checkedWord_of_fits_shamt {i : Instr} {v : Int} (hcheck : i.checkImmediate = checkShamt v) (h : 0 ≤ v ∧ v ≤ 31) :
    i.checkedWord = .ok (encode i) :=
  Instr.checkedWord_of_check_none (hcheck.trans (checkRange_in (fitsShamt_iff.2 h)))

/-- An instruction whose check refuses a shift amount answers ImmediateOutOfRange (rule R87). -/
theorem checkedWord_of_out_of_shamt {i : Instr} {v : Int} (hcheck : i.checkImmediate = checkShamt v) (h : v < 0 ∨ 31 < v) :
    i.checkedWord = .error .immediateOutOfRange := by
  have hout : ¬ fitsShamt v = true := by rw [fitsShamt_iff]; omega
  exact Instr.checkedWord_of_check_error (hcheck.trans (checkRange_out hout))

/-- Bit 25 of an I-shift word is the lowest bit of its funct7 (rule R93). -/
theorem getLsbD_fmtIShift_25 (f7 : BitVec 7) (sh : BitVec 5) (rs1 : RegId) (f3 : BitVec 3) (rd : RegId) (op : BitVec 7) :
    (fmtIShift f7 sh rs1 f3 rd op).getLsbD 25 = f7.getLsbD 0 := by
  obtain ⟨hf7, -⟩ := fmtIShift_fields f7 sh rs1 f3 rd op
  simpa [funct7Of] using congrArg (fun f => f.getLsbD 0) hf7

/-- Each mnemonic of rules R261 to R263 is of the I-shift family (rule R77). -/
theorem lookup_family_of_mem_iShiftRows : ∀ p ∈ iShiftRows, lookup p.1 Tables.contents.family = some .iShift := by decide

/-- The lowest bit of each funct7 of rules R261 to R263 is 0. -/
theorem funct7_low_bit_of_mem_iShiftRows : ∀ p ∈ iShiftRows, p.2.1.getLsbD 0 = false := by decide

/-- Each mnemonic of rules R261 to R263 makes, of any two registers and any integer, an instruction with the shift check of rule R87 whose
word has the funct7 and the funct3 of the rule. -/
theorem bindOperands_of_mem_iShiftRows : ∀ p ∈ iShiftRows, ∀ rd rs1 shamt, ∃ i, bindOperands p.1 (.regRegImm rd rs1 shamt) = some i ∧
    i.checkImmediate = checkShamt shamt ∧ encode i = fmtIShift p.2.1 (tc 5 shamt) rs1 p.2.2 rd 0b0010011#7 := by
  simp only [iShiftRows, List.forall_mem_cons, List.not_mem_nil, false_implies, implies_true, and_true]
  refine ⟨?slli, ?srli, ?srai⟩
  all_goals exact fun _ _ _ => ⟨_, rfl, rfl, rfl⟩

namespace Machine

section
variable {s : State} {fam : Family} (hs : s.Ready) (hfam : lookup s.lineMnemonic Tables.contents.family = some fam)
  (hshape : fam.shape = .regRegImm)
include hs hfam hshape

/-- Two registers and an immediate that bind to an instruction: the call answers that instruction's word or its immediate error (rule
R70). -/
theorem step_of_regRegImm {a b c : Text} {x y : RegId} {v : Int} {i : Instr} (hops : s.lineOperands = .ok [a, b, c])
    (ha : resolve Tables.contents a = some x) (hb : resolve Tables.contents b = some y) (hc : immToken c = some v)
    (hbind : bindOperands s.lineMnemonic (.regRegImm x y v) = some i) : step s = .next (s.answer i.checkedWord) := by
  have hbound : bindShape Tables.contents fam.shape [a, b, c] = some (.regRegImm x y v) := by
    rw [hshape]
    exact bindShape_regRegImm_eq_some.2 ⟨a, b, c, x, y, v, rfl, ha, hb, hc, rfl⟩
  exact step_of_bindOperands hs hfam hops hbound hbind

/-- Anything but two register tokens and an immediate token, a separator error included (rules R75, R78). -/
theorem step_of_not_regRegImm
    (h : ∀ a b c, s.lineOperands = .ok [a, b, c] →
      resolve Tables.contents a = none ∨ resolve Tables.contents b = none ∨ immToken c = none) :
    step s = .next (s.answer (.error .malformedOperands)) := by
  refine step_of_operands_unbound hs hfam fun toks hops => ?_
  rw [hshape]
  exact bindShape_regRegImm_eq_none fun a b c htoks => h a b c (by rw [hops, htoks])

end

end Machine

open Machine

/-- Settles O18: two register tokens and an immediate token bind to the instruction of the line's mnemonic, whose shift check decides
between the rule's word and the range error, and no other operand list fills the shape; bit 25 is the lowest bit of the rule's funct7. -/
theorem iShiftLinesEncodeAsRuled : Obligations.IShiftLinesEncodeAsRuled := by
  unfold Obligations.IShiftLinesEncodeAsRuled
  refine ⟨?lines, ?bit25, examplesHold_of_encodeText (by decide)⟩
  case lines =>
    rintro s hs m f7 f3 hrow rfl
    have hfam := lookup_family_of_mem_iShiftRows _ hrow
    refine ⟨fun a b v rd rs1 shamt hops ha hb hv => ?_, step_of_not_regRegImm hs hfam rfl⟩
    obtain ⟨i, hbind, hcheck, hword⟩ := bindOperands_of_mem_iShiftRows _ hrow rd rs1 shamt
    have hstep := step_of_regRegImm hs hfam rfl hops ha hb hv hbind
    constructor
    · intro hin
      rw [hstep, checkedWord_of_fits_shamt hcheck hin, hword]
    · intro hout
      rw [hstep, checkedWord_of_out_of_shamt hcheck hout]
  case bit25 =>
    intro m f7 f3 sh rs1 rd hrow
    rw [getLsbD_fmtIShift_25]
    exact funct7_low_bit_of_mem_iShiftRows _ hrow

end Sys2Proof
end

section
/-! PROOFS. Lines of the S family (44_s_type.md, rules R280 to R283). -/

namespace Sys2Proof

open Rules Machine

/-- Each mnemonic of rules R281 to R283 is of the S family (rule R77). -/
theorem lookup_family_of_mem_sRows : ∀ p ∈ sRows, lookup p.1 Tables.contents.family = some .s := by decide

/-- Each mnemonic of rules R281 to R283 makes, of the stored register and any memory operand, an instruction with the 12-bit check of rule
R86 whose word has the funct3 of the rule. -/
theorem bindOperands_of_mem_sRows : ∀ p ∈ sRows, ∀ rs2 rs1 offset, ∃ i, bindOperands p.1 (.regMem rs2 offset rs1) = some i ∧
    i.checkImmediate = checkImm12 offset ∧ encode i = fmtS (maskFFF offset) rs2 rs1 p.2 0b0100011#7 := by
  simp only [sRows, List.forall_mem_cons, List.not_mem_nil, false_implies, implies_true, and_true]
  refine ⟨?sb, ?sh, ?sw⟩
  all_goals exact fun _ _ _ => ⟨_, rfl, rfl, rfl⟩

/-- Settles O19: a register token (rs2) and a memory-operand token bind to the instruction of the line's mnemonic, whose 12-bit check
decides between the rule's word and the range error, and no other operand list fills the shape; `fmtS_imm` joins the split immediate. -/
theorem storeLinesEncodeAsRuled : Obligations.StoreLinesEncodeAsRuled := by
  unfold Obligations.StoreLinesEncodeAsRuled
  refine ⟨?lines, ?joined, examplesHold_of_encodeText (by decide)⟩
  case lines =>
    rintro s hs m f3 hrow rfl
    have hfam := lookup_family_of_mem_sRows _ hrow
    refine ⟨fun a v rs2 offset rs1 hops ha hv => ?_, step_of_not_regMem hs hfam rfl⟩
    obtain ⟨i, hbind, hcheck, hword⟩ := bindOperands_of_mem_sRows _ hrow rs2 rs1 offset
    rw [← hword]
    exact step_of_regMem_imm12 hs hfam rfl hops ha hv hbind hcheck
  case joined =>
    intro f rs2 rs1 f3 op
    obtain ⟨-, -, hjoined⟩ := fmtS_imm f rs2 rs1 f3 op
    exact hjoined

end Sys2Proof
end

section
/-! PROOFS. Lines of the B family (45_b_type.md, rules R300 to R306). -/

namespace Sys2Proof

open Rules Machine

/-- An instruction whose check passes a branch offset answers its word (rule R88). -/
theorem checkedWord_of_fits_imm13 {i : Instr} {v : Int} (hcheck : i.checkImmediate = checkImm13 v)
    (h : -4096 ≤ v ∧ v ≤ 4095 ∧ v % 2 = 0) : i.checkedWord = .ok (encode i) := by
  obtain ⟨hlo, hhi, heven⟩ := h
  exact Instr.checkedWord_of_check_none (hcheck.trans (checkRangeThenEven_in (fitsImm13_iff.2 ⟨hlo, hhi⟩) heven))

/-- An instruction whose branch offset is out of range answers ImmediateOutOfRange, whether the offset is odd or not (rule R88). -/
theorem checkedWord_of_out_of_imm13 {i : Instr} {v : Int} (hcheck : i.checkImmediate = checkImm13 v) (h : v < -4096 ∨ 4095 < v) :
    i.checkedWord = .error .immediateOutOfRange := by
  have hout : ¬ fitsImm13 v = true := by rw [fitsImm13_iff]; omega
  exact Instr.checkedWord_of_check_error (hcheck.trans (checkRangeThenEven_out hout))

/-- An instruction whose branch offset is within range and odd answers ImmediateMisaligned (rule R88). -/
theorem checkedWord_of_odd_imm13 {i : Instr} {v : Int} (hcheck : i.checkImmediate = checkImm13 v)
    (h : -4096 ≤ v ∧ v ≤ 4095 ∧ v % 2 = 1) : i.checkedWord = .error .immediateMisaligned := by
  obtain ⟨hlo, hhi, hodd⟩ := h
  exact Instr.checkedWord_of_check_error (hcheck.trans (checkRangeThenEven_odd (fitsImm13_iff.2 ⟨hlo, hhi⟩) hodd))

/-- Each mnemonic of rules R301 to R306 is of the B family (rule R77). -/
theorem lookup_family_of_mem_bRows : ∀ p ∈ bRows, lookup p.1 Tables.contents.family = some .b := by decide

/-- Each mnemonic of rules R301 to R306 makes, of any two registers and any offset, an instruction with the checks of rule R88 whose word
has the funct3 of the rule. -/
theorem bindOperands_of_mem_bRows : ∀ p ∈ bRows, ∀ rs1 rs2 offset, ∃ i, bindOperands p.1 (.regRegImm rs1 rs2 offset) = some i ∧
    i.checkImmediate = checkImm13 offset ∧ encode i = fmtB (tc 13 offset) rs2 rs1 p.2 0b1100011#7 := by
  simp only [bRows, List.forall_mem_cons, List.not_mem_nil, false_implies, implies_true, and_true]
  refine ⟨?beq, ?bne, ?blt, ?bge, ?bltu, ?bgeu⟩
  all_goals exact fun _ _ _ => ⟨_, rfl, rfl, rfl⟩

/-- Settles O20: two register tokens (rs1, then rs2) and an immediate token bind to the instruction of the line's mnemonic, whose checks
decide between the rule's word, the range error and the alignment error, and no other operand list fills the shape. -/
theorem branchLinesEncodeAsRuled : Obligations.BranchLinesEncodeAsRuled := by
  unfold Obligations.BranchLinesEncodeAsRuled
  refine ⟨?lines, examplesHold_of_encodeText (by decide)⟩
  rintro s hs m f3 hrow rfl
  have hfam := lookup_family_of_mem_bRows _ hrow
  refine ⟨fun a b v rs1 rs2 offset hops ha hb hv => ?_, step_of_not_regRegImm hs hfam rfl⟩
  obtain ⟨i, hbind, hcheck, hword⟩ := bindOperands_of_mem_bRows _ hrow rs1 rs2 offset
  have hstep := step_of_regRegImm hs hfam rfl hops ha hb hv hbind
  refine ⟨fun hin => ?_, fun hout => ?_, fun hodd => ?_⟩
  · rw [hstep, checkedWord_of_fits_imm13 hcheck hin, hword]
  · rw [hstep, checkedWord_of_out_of_imm13 hcheck hout]
  · rw [hstep, checkedWord_of_odd_imm13 hcheck hodd]

end Sys2Proof
end

section
/-! PROOFS. Lines of the U family (46_u_type.md, rules R320 to R322), and what a call answers on a line of any family that takes a register
and an immediate. -/

namespace Sys2Proof

open Rules

/-- The shape of a register token and an immediate token (rule R78). -/
theorem bindShape_regImm_eq_some {t : Tables} {toks : List Text} {ops : Operands} :
    bindShape t .regImm toks = some ops ↔
      ∃ a c x v, toks = [a, c] ∧ resolve t a = some x ∧ immToken c = some v ∧ ops = .regImm x v := by
  constructor
  · intro h
    obtain ⟨hshape, -⟩ | ⟨hshape, -⟩ | ⟨hshape, -⟩ | ⟨-, hbound⟩ | ⟨hshape, -⟩ := bindShape_eq_some h
    case inr.inr.inr.inl => exact hbound
    all_goals cases hshape
  · rintro ⟨a, c, x, v, rfl, ha, hc, rfl⟩
    simp only [bindShape, ha, hc]

/-- Any other tokens do not fill the shape: another count, or a token of the wrong kind (rules R78, R79, R84). -/
theorem bindShape_regImm_eq_none {t : Tables} {toks : List Text}
    (h : ∀ a c, toks = [a, c] → resolve t a = none ∨ immToken c = none) : bindShape t .regImm toks = none := by
  refine Option.eq_none_iff_forall_ne_some.2 fun ops hops => ?_
  obtain ⟨a, c, x, v, htoks, ha, hc, -⟩ := bindShape_regImm_eq_some.1 hops
  simpa [ha, hc] using h a c htoks

/-- An instruction whose check passes an upper immediate answers its word (rule R89). -/
theorem checkedWord_of_fits_imm20 {i : Instr} {v : Int} (hcheck : i.checkImmediate = checkImm20 v) (h : -524288 ≤ v ∧ v ≤ 1048575) :
    i.checkedWord = .ok (encode i) :=
  Instr.checkedWord_of_check_none (hcheck.trans (checkRange_in (fitsImm20_iff.2 h)))

/-- An instruction whose check refuses an upper immediate answers ImmediateOutOfRange (rule R89). -/
theorem checkedWord_of_out_of_imm20 {i : Instr} {v : Int} (hcheck : i.checkImmediate = checkImm20 v) (h : v < -524288 ∨ 1048575 < v) :
    i.checkedWord = .error .immediateOutOfRange := by
  have hout : ¬ fitsImm20 v = true := by rw [fitsImm20_iff]; omega
  exact Instr.checkedWord_of_check_error (hcheck.trans (checkRange_out hout))

namespace Machine

section
variable {s : State} {fam : Family} (hs : s.Ready) (hfam : lookup s.lineMnemonic Tables.contents.family = some fam)
  (hshape : fam.shape = .regImm)
include hs hfam hshape

/-- A register and an immediate that bind to an instruction: the call answers that instruction's word or its immediate error (rule R70). -/
theorem step_of_regImm {a c : Text} {x : RegId} {v : Int} {i : Instr} (hops : s.lineOperands = .ok [a, c])
    (ha : resolve Tables.contents a = some x) (hc : immToken c = some v)
    (hbind : bindOperands s.lineMnemonic (.regImm x v) = some i) : step s = .next (s.answer i.checkedWord) := by
  have hbound : bindShape Tables.contents fam.shape [a, c] = some (.regImm x v) := by
    rw [hshape]
    exact bindShape_regImm_eq_some.2 ⟨a, c, x, v, rfl, ha, hc, rfl⟩
  exact step_of_bindOperands hs hfam hops hbound hbind

/-- Anything but a register token and an immediate token, a separator error included (rules R75, R78). -/
theorem step_of_not_regImm
    (h : ∀ a c, s.lineOperands = .ok [a, c] → resolve Tables.contents a = none ∨ immToken c = none) :
    step s = .next (s.answer (.error .malformedOperands)) := by
  refine step_of_operands_unbound hs hfam fun toks hops => ?_
  rw [hshape]
  exact bindShape_regImm_eq_none fun a c htoks => h a c (by rw [hops, htoks])

end

end Machine

/-- Each mnemonic of rules R321 and R322 is of the U family (rule R77). -/
theorem lookup_family_of_mem_uRows : ∀ p ∈ uRows, lookup p.1 Tables.contents.family = some .u := by decide

/-- Each mnemonic of rules R321 and R322 makes, of any register and any integer, an instruction with the check of rule R89 whose word has
the unshifted immediate and the opcode of the rule. -/
theorem bindOperands_of_mem_uRows : ∀ p ∈ uRows, ∀ rd imm, ∃ i, bindOperands p.1 (.regImm rd imm) = some i ∧
    i.checkImmediate = checkImm20 imm ∧ encode i = fmtU (tc 20 imm) rd p.2 := by
  simp only [uRows, List.forall_mem_cons, List.not_mem_nil, false_implies, implies_true, and_true]
  refine ⟨?lui, ?auipc⟩
  all_goals exact fun _ _ => ⟨_, rfl, rfl, rfl⟩

open Machine

/-- Settles O21: a register token and an immediate token bind to the instruction of the line's mnemonic, whose 20-bit check decides between
the rule's word and the range error, and no other operand list fills the shape. -/
theorem upperImmediateLinesEncodeAsRuled : Obligations.UpperImmediateLinesEncodeAsRuled := by
  unfold Obligations.UpperImmediateLinesEncodeAsRuled
  refine ⟨?lines, examplesHold_of_encodeText (by decide)⟩
  rintro s hs m op hrow rfl
  have hfam := lookup_family_of_mem_uRows _ hrow
  refine ⟨fun a v rd imm hops ha hv => ?_, step_of_not_regImm hs hfam rfl⟩
  obtain ⟨i, hbind, hcheck, hword⟩ := bindOperands_of_mem_uRows _ hrow rd imm
  have hstep := step_of_regImm hs hfam rfl hops ha hv hbind
  constructor
  · intro hin
    rw [hstep, checkedWord_of_fits_imm20 hcheck hin, hword]
  · intro hout
    rw [hstep, checkedWord_of_out_of_imm20 hcheck hout]

end Sys2Proof
end

section
/-! PROOFS. Lines of the J family (47_j_type.md, rules R340 and R341). -/

namespace Sys2Proof

open Rules Machine

/-- What an instruction with the checks of rule R90 answers: range before alignment, then its word. -/
theorem checkedWord_of_imm21 {i : Instr} {v : Int} (hcheck : i.checkImmediate = checkImm21 v) :
    (-1048576 ≤ v ∧ v ≤ 1048575 ∧ v % 2 = 0 → i.checkedWord = .ok (encode i)) ∧
    (v < -1048576 ∨ 1048575 < v → i.checkedWord = .error .immediateOutOfRange) ∧
    (-1048576 ≤ v ∧ v ≤ 1048575 ∧ v % 2 = 1 → i.checkedWord = .error .immediateMisaligned) := by
  refine ⟨?even, ?out, ?odd⟩
  case even =>
    rintro ⟨hlo, hhi, heven⟩
    exact Instr.checkedWord_of_check_none (hcheck.trans (checkRangeThenEven_in (fitsImm21_iff.2 ⟨hlo, hhi⟩) heven))
  case out =>
    intro h
    have hout : ¬ fitsImm21 v = true := by rw [fitsImm21_iff]; omega
    exact Instr.checkedWord_of_check_error (hcheck.trans (checkRangeThenEven_out hout))
  case odd =>
    rintro ⟨hlo, hhi, hodd⟩
    exact Instr.checkedWord_of_check_error (hcheck.trans (checkRangeThenEven_odd (fitsImm21_iff.2 ⟨hlo, hhi⟩) hodd))

/-- The mnemonic of rule R341 is of the J family (rule R77). -/
theorem lookup_family_of_mem_jRows : ∀ p ∈ jRows, lookup p.1 Tables.contents.family = some .j := by decide

/-- The mnemonic of rule R341 makes, of any register and any offset, an instruction with the checks of rule R90 whose word has the opcode of
the rule. -/
theorem bindOperands_of_mem_jRows : ∀ p ∈ jRows, ∀ rd offset, ∃ i, bindOperands p.1 (.regImm rd offset) = some i ∧
    i.checkImmediate = checkImm21 offset ∧ encode i = fmtJ (tc 21 offset) rd p.2 := by
  simp only [jRows, List.forall_mem_cons, List.not_mem_nil, false_implies, implies_true, and_true]
  exact fun _ _ => ⟨_, rfl, rfl, rfl⟩

/-- Settles O22: a register token and an immediate token bind to jal, whose checks decide between the rule's word, the range error and the
alignment error, and no other operand list fills the shape. -/
theorem jalLinesEncodeAsRuled : Obligations.JalLinesEncodeAsRuled := by
  unfold Obligations.JalLinesEncodeAsRuled
  refine ⟨?lines, examplesHold_of_encodeText (by decide)⟩
  rintro s hs m op hrow rfl
  have hfam := lookup_family_of_mem_jRows _ hrow
  refine ⟨fun a v rd offset hops ha hv => ?_, step_of_not_regImm hs hfam rfl⟩
  obtain ⟨i, hbind, hcheck, hword⟩ := bindOperands_of_mem_jRows _ hrow rd offset
  obtain ⟨heven, hout, hodd⟩ := checkedWord_of_imm21 hcheck
  rw [step_of_regImm hs hfam rfl hops ha hv hbind, ← hword]
  refine ⟨fun h => ?_, fun h => ?_, fun h => ?_⟩
  · rw [heven h]
  · rw [hout h]
  · rw [hodd h]

end Sys2Proof
end

section
/-! PROOFS. The inverse decoder and the encoder undo each other (30_encoding.md sections 6 to 8, rules R91 to R113). -/

namespace Sys2Proof

/-! Immediate patterns and the integers they stand for (rules R11, R103). -/

/-- A value in the signed range of its pattern is read back from it. -/
theorem toInt_tc {n : Nat} {v : Int} (hlo : -2 ^ n ≤ v) (hhi : v < 2 ^ n) : (tc (n + 1) v).toInt = v :=
  BitVec.toInt_ofInt_eq_self (by omega) hlo hhi

/-- A pattern is the pattern of its signed value. -/
theorem tc_toInt {n : Nat} (x : BitVec n) : tc n x.toInt = x := BitVec.ofInt_toInt

/-- A pattern is the pattern of its unsigned value. -/
theorem tc_toNat {n : Nat} (x : BitVec n) : tc n (x.toNat : Int) = x := by simp [tc]

/-- The lowest bit of a pattern is the parity of its value (rules R88, R90). -/
theorem tc_low_bit {n : Nat} (hn : 0 < n) (v : Int) : (tc n v).extractLsb' 0 1 = 0#1 ↔ v % 2 = 0 := by
  have hdvd : (2 : Int) ∣ 2 ^ n := dvd_pow_self 2 (by omega)
  have hmod : v % 2 ^ n % 2 = v % 2 := Int.emod_emod_of_dvd v hdvd
  have hpos : 0 ≤ v % 2 ^ n := Int.emod_nonneg _ (by positivity)
  rw [← BitVec.toNat_inj]
  simp only [tc, BitVec.extractLsb'_toNat, BitVec.toNat_ofInt, Nat.shiftRight_zero, BitVec.toNat_ofNat, Nat.cast_pow, Nat.cast_ofNat]
  omega

/-- The value of a pattern is even exactly when its lowest bit is 0. -/
theorem toInt_even {n : Nat} (hn : 0 < n) (x : BitVec n) : x.toInt % 2 = 0 ↔ x.extractLsb' 0 1 = 0#1 := by
  rw [← tc_low_bit hn, tc_toInt]

/-! The immediate formulas of rule R103 on the formats of rules R92 to R97. -/

theorem immIOf_fmtI (imm : BitVec 12) (rs1 : RegId) (f3 : BitVec 3) (rd : RegId) (op : BitVec 7) :
    immIOf (fmtI imm rs1 f3 rd op) = imm.toInt := congrArg BitVec.toInt (fmtI_imm imm rs1 f3 rd op)

theorem shamtOf_fmtIShift (f7 : BitVec 7) (sh : BitVec 5) (rs1 : RegId) (f3 : BitVec 3) (rd : RegId) (op : BitVec 7) :
    shamtOf (fmtIShift f7 sh rs1 f3 rd op) = sh.toNat := by
  obtain ⟨-, hsh, -⟩ := fmtIShift_fields f7 sh rs1 f3 rd op
  rw [shamtOf, hsh]

theorem immSOf_fmtS (imm : BitVec 12) (rs2 rs1 : RegId) (f3 : BitVec 3) (op : BitVec 7) :
    immSOf (fmtS imm rs2 rs1 f3 op) = imm.toInt := by
  obtain ⟨-, -, hjoin⟩ := fmtS_imm imm rs2 rs1 f3 op
  exact congrArg BitVec.toInt hjoin

theorem immUOf_fmtU (imm : BitVec 20) (rd : RegId) (op : BitVec 7) : immUOf (fmtU imm rd op) = imm.toNat := by
  obtain ⟨himm, -⟩ := fmtU_fields imm rd op
  rw [immUOf, himm]

/-- The branch pattern a word holds: its scattered bits, and 0 for the bit that is not placed (rule R101). -/
def imm13Of (w : Word) : BitVec 13 :=
  w.extractLsb' 31 1 ++ w.extractLsb' 7 1 ++ w.extractLsb' 25 6 ++ w.extractLsb' 8 4 ++ 0#1

/-- The jump pattern a word holds: its scattered bits, and 0 for the bit that is not placed (rule R102). -/
def imm21Of (w : Word) : BitVec 21 :=
  w.extractLsb' 31 1 ++ w.extractLsb' 12 8 ++ w.extractLsb' 20 1 ++ w.extractLsb' 21 10 ++ 0#1

theorem immBOf_eq_toInt (w : Word) : immBOf w = (imm13Of w).toInt := rfl

theorem immJOf_eq_toInt (w : Word) : immJOf w = (imm21Of w).toInt := rfl

theorem imm13Of_fmtB {imm : BitVec 13} (heven : imm.extractLsb' 0 1 = 0#1) (rs2 rs1 : RegId) (f3 : BitVec 3) (op : BitVec 7) :
    imm13Of (fmtB imm rs2 rs1 f3 op) = imm := by
  obtain ⟨h31, h25, -, -, -, h8, h7, -⟩ := fmtB_fields imm rs2 rs1 f3 op
  simp only [imm13Of, h31, h25, h8, h7, ← heven, BitVec.extractLsb'_append_extractLsb'_eq_extractLsb', BitVec.extractLsb'_eq_self]

theorem imm21Of_fmtJ {imm : BitVec 21} (heven : imm.extractLsb' 0 1 = 0#1) (rd : RegId) (op : BitVec 7) :
    imm21Of (fmtJ imm rd op) = imm := by
  obtain ⟨h31, h21, h20, h12, -, -⟩ := fmtJ_fields imm rd op
  simp only [imm21Of, h31, h21, h20, h12, ← heven, BitVec.extractLsb'_append_extractLsb'_eq_extractLsb', BitVec.extractLsb'_eq_self]

/-! Well-formed immediates are read back (rules R86 to R90, R103). -/

theorem immIOf_fmtI_tc {v : Int} (h : fitsImm12 v = true) (rs1 : RegId) (f3 : BitVec 3) (rd : RegId) (op : BitVec 7) :
    immIOf (fmtI (tc 12 v) rs1 f3 rd op) = v := by
  obtain ⟨hlo, hhi⟩ := fitsImm12_iff.1 h
  rw [immIOf_fmtI, toInt_tc hlo (by omega)]

theorem shamtOf_fmtIShift_tc {v : Int} (h : fitsShamt v = true) (f7 : BitVec 7) (rs1 : RegId) (f3 : BitVec 3) (rd : RegId) (op : BitVec 7) :
    shamtOf (fmtIShift f7 (tc 5 v) rs1 f3 rd op) = v := by
  obtain ⟨hlo, hhi⟩ := fitsShamt_iff.1 h
  rw [shamtOf_fmtIShift, tc, BitVec.toNat_ofInt]
  omega

theorem immSOf_fmtS_tc {v : Int} (h : fitsImm12 v = true) (rs2 rs1 : RegId) (f3 : BitVec 3) (op : BitVec 7) :
    immSOf (fmtS (tc 12 v) rs2 rs1 f3 op) = v := by
  obtain ⟨hlo, hhi⟩ := fitsImm12_iff.1 h
  rw [immSOf_fmtS, toInt_tc hlo (by omega)]

theorem immBOf_fmtB_tc {v : Int} (h : (fitsImm13 v && isEven v) = true) (rs2 rs1 : RegId) (f3 : BitVec 3) (op : BitVec 7) :
    immBOf (fmtB (tc 13 v) rs2 rs1 f3 op) = v := by
  obtain ⟨hfits, heven⟩ := Bool.and_eq_true_iff.1 h
  obtain ⟨hlo, hhi⟩ := fitsImm13_iff.1 hfits
  rw [immBOf_eq_toInt, imm13Of_fmtB ((tc_low_bit (by omega) v).2 (isEven_iff.1 heven)), toInt_tc hlo (by omega)]

theorem immJOf_fmtJ_tc {v : Int} (h : (fitsImm21 v && isEven v) = true) (rd : RegId) (op : BitVec 7) :
    immJOf (fmtJ (tc 21 v) rd op) = v := by
  obtain ⟨hfits, heven⟩ := Bool.and_eq_true_iff.1 h
  obtain ⟨hlo, hhi⟩ := fitsImm21_iff.1 hfits
  rw [immJOf_eq_toInt, imm21Of_fmtJ ((tc_low_bit (by omega) v).2 (isEven_iff.1 heven)), toInt_tc hlo (by omega)]

/-- Settles O42: in each format the decoder's tests and the register formulas read single fields back, so each opcode, funct3 and funct7
leads to its own constructor, and a well-formed immediate comes back whole from its bits. -/
theorem decodeInvertsEncode : Obligations.DecodeInvertsEncode := by
  unfold Obligations.DecodeInvertsEncode
  intro i hwf
  cases i
  case add | sub | sll | slt | sltu | xor | srl | sra | or | and =>
    simp [encode, decodeWord, decodeR, fmtR_fields, Instr.canonical]
  case addi | slti | sltiu | xori | ori | andi =>
    simp [encode, decodeWord, decodeOpImm, fmtI_fields, immIOf_fmtI_tc hwf, Instr.canonical]
  case slli | srli | srai =>
    simp [encode, decodeWord, decodeOpImm, decodeIShift, fmtIShift_fields, shamtOf_fmtIShift_tc hwf, Instr.canonical]
  case lb | lh | lw | lbu | lhu =>
    simp [encode, maskFFF_eq_tc, decodeWord, decodeLoad, fmtI_fields, immIOf_fmtI_tc hwf, Instr.canonical]
  case jalr => simp [encode, maskFFF_eq_tc, decodeWord, decodeJalr, fmtI_fields, immIOf_fmtI_tc hwf, Instr.canonical]
  case sb | sh | sw => simp [encode, maskFFF_eq_tc, decodeWord, decodeStore, fmtS_fields, immSOf_fmtS_tc hwf, Instr.canonical]
  case beq | bne | blt | bge | bltu | bgeu =>
    simp [encode, decodeWord, decodeBranch, fmtB_fields, immBOf_fmtB_tc hwf, Instr.canonical]
  case lui | auipc => simp [encode, decodeWord, fmtU_fields, immUOf_fmtU, Instr.canonical]
  case jal => simp [encode, decodeWord, fmtJ_fields, immJOf_fmtJ_tc hwf, Instr.canonical]
  case ecall | ebreak | fenceTso | pause => rfl

/-! Every word is its fields, in each format (rules R91 to R97). -/

/-- A word is its fields in I format (rule R92). -/
theorem eq_fmtI_fields (w : Word) : w = fmtI (w.extractLsb' 20 12) (rs1Of w) (funct3Of w) (rdOf w) (opcodeOf w) := by
  simp only [fmtI, rs1Of, funct3Of, rdOf, opcodeOf, BitVec.extractLsb'_append_extractLsb'_eq_extractLsb', BitVec.extractLsb'_eq_self]

/-- A word is its fields in I-shift format (rule R93). -/
theorem eq_fmtIShift_fields (w : Word) :
    w = fmtIShift (funct7Of w) (w.extractLsb' 20 5) (rs1Of w) (funct3Of w) (rdOf w) (opcodeOf w) := eq_fmtR_fields w

/-- A word is its fields in S format (rule R94). -/
theorem eq_fmtS_fields (w : Word) :
    w = fmtS (w.extractLsb' 25 7 ++ w.extractLsb' 7 5) (rs2Of w) (rs1Of w) (funct3Of w) (opcodeOf w) := by
  simp (disch := omega) only [fmtS, extract_append_high, extract_append_low, extract_whole]
  exact eq_fmtR_fields w

/-- A word is its fields in B format (rule R95). -/
theorem eq_fmtB_fields (w : Word) : w = fmtB (imm13Of w) (rs2Of w) (rs1Of w) (funct3Of w) (opcodeOf w) := by
  simp (disch := omega) only [fmtB, imm13Of, extract_append_high, extract_append_low, extract_whole]
  simp only [rs2Of, rs1Of, funct3Of, opcodeOf, BitVec.extractLsb'_append_extractLsb'_eq_extractLsb', BitVec.extractLsb'_eq_self]

/-- A word is its fields in U format (rule R96). -/
theorem eq_fmtU_fields (w : Word) : w = fmtU (w.extractLsb' 12 20) (rdOf w) (opcodeOf w) := by
  simp only [fmtU, rdOf, opcodeOf, BitVec.extractLsb'_append_extractLsb'_eq_extractLsb', BitVec.extractLsb'_eq_self]

/-- A word is its fields in J format (rule R97). -/
theorem eq_fmtJ_fields (w : Word) : w = fmtJ (imm21Of w) (rdOf w) (opcodeOf w) := by
  simp (disch := omega) only [fmtJ, imm21Of, extract_append_high, extract_append_low, extract_whole]
  simp only [rdOf, opcodeOf, BitVec.extractLsb'_append_extractLsb'_eq_extractLsb', BitVec.extractLsb'_eq_self]

/-! What a word reads back as passes the checks (rules R86 to R90). -/

theorem fitsImm12_toInt (x : BitVec 12) : fitsImm12 x.toInt = true := by
  have hlo := x.le_toInt
  have hhi := x.toInt_lt
  exact fitsImm12_iff.2 ⟨by omega, by omega⟩

theorem fitsShamt_toNat (x : BitVec 5) : fitsShamt x.toNat = true := by
  have hhi := x.isLt
  exact fitsShamt_iff.2 ⟨by omega, by omega⟩

theorem fitsImm20_toNat (x : BitVec 20) : fitsImm20 x.toNat = true := by
  have hhi := x.isLt
  exact fitsImm20_iff.2 ⟨by omega, by omega⟩

theorem immBOf_fits_and_even (w : Word) : (fitsImm13 (immBOf w) && isEven (immBOf w)) = true := by
  have hlo := (imm13Of w).le_toInt
  have hhi := (imm13Of w).toInt_lt
  have hlow : (imm13Of w).extractLsb' 0 1 = 0#1 := (extract_append_low _ _ _ _ (by omega)).trans (extract_whole _ _ rfl)
  rw [immBOf_eq_toInt, Bool.and_eq_true_iff, fitsImm13_iff, isEven_iff, toInt_even (by omega)]
  exact ⟨⟨by omega, by omega⟩, hlow⟩

theorem immJOf_fits_and_even (w : Word) : (fitsImm21 (immJOf w) && isEven (immJOf w)) = true := by
  have hlo := (imm21Of w).le_toInt
  have hhi := (imm21Of w).toInt_lt
  have hlow : (imm21Of w).extractLsb' 0 1 = 0#1 := (extract_append_low _ _ _ _ (by omega)).trans (extract_whole _ _ rfl)
  rw [immJOf_eq_toInt, Bool.and_eq_true_iff, fitsImm21_iff, isEven_iff, toInt_even (by omega)]
  exact ⟨⟨by omega, by omega⟩, hlow⟩

/-! The word of the instruction read from a word's fields, opcode by opcode (rules R104 to R113). -/

/-- The instruction is well formed and its word is this word. -/
def Instr.Spells (i : Instr) (w : Word) : Prop := i.WellFormed ∧ encode i = w

section
variable {w : Word} {i : Instr}

theorem spells_of_decodeR (hop : opcodeOf w = 0b0110011#7) (h : decodeR w = .ok i) : i.Spells w := by
  have hw := eq_fmtR_fields w
  unfold decodeR at h
  split at h <;> cases h
  all_goals
    next h7 h3 =>
      rw [hop, h7, h3] at hw
      exact ⟨rfl, hw.symm⟩

theorem spells_of_decodeIShift (hop : opcodeOf w = 0b0010011#7) (h : decodeIShift w = .ok i) : i.Spells w := by
  have hw := eq_fmtIShift_fields w
  unfold decodeIShift at h
  split at h <;> cases h
  all_goals
    next h7 h3 =>
      rw [hop, h7, h3, ← tc_toNat (w.extractLsb' 20 5)] at hw
      exact ⟨fitsShamt_toNat _, hw.symm⟩

theorem spells_of_decodeOpImm (hop : opcodeOf w = 0b0010011#7) (h : decodeOpImm w = .ok i) : i.Spells w := by
  have hw := eq_fmtI_fields w
  rw [hop, ← tc_toInt (w.extractLsb' 20 12)] at hw
  unfold decodeOpImm at h
  split at h
  case h_7 => exact spells_of_decodeIShift hop h
  all_goals
    next h3 =>
      cases h
      rw [h3] at hw
      exact ⟨fitsImm12_toInt _, hw.symm⟩

theorem spells_of_decodeLoad (hop : opcodeOf w = 0b0000011#7) (h : decodeLoad w = .ok i) : i.Spells w := by
  have hw := eq_fmtI_fields w
  rw [hop, ← tc_toInt (w.extractLsb' 20 12), ← maskFFF_eq_tc] at hw
  unfold decodeLoad at h
  split at h <;> cases h
  all_goals
    next h3 =>
      rw [h3] at hw
      exact ⟨fitsImm12_toInt _, hw.symm⟩

theorem spells_of_decodeJalr (hop : opcodeOf w = 0b1100111#7) (h : decodeJalr w = .ok i) : i.Spells w := by
  have hw := eq_fmtI_fields w
  rw [hop, ← tc_toInt (w.extractLsb' 20 12), ← maskFFF_eq_tc] at hw
  unfold decodeJalr at h
  split at h <;> cases h
  next h3 =>
    rw [h3] at hw
    exact ⟨fitsImm12_toInt _, hw.symm⟩

theorem spells_of_decodeStore (hop : opcodeOf w = 0b0100011#7) (h : decodeStore w = .ok i) : i.Spells w := by
  have hw := eq_fmtS_fields w
  rw [hop, ← tc_toInt (w.extractLsb' 25 7 ++ w.extractLsb' 7 5), ← maskFFF_eq_tc] at hw
  unfold decodeStore at h
  split at h <;> cases h
  all_goals
    next h3 =>
      rw [h3] at hw
      exact ⟨fitsImm12_toInt _, hw.symm⟩

theorem spells_of_decodeBranch (hop : opcodeOf w = 0b1100011#7) (h : decodeBranch w = .ok i) : i.Spells w := by
  have hw := eq_fmtB_fields w
  rw [hop, ← tc_toInt (imm13Of w)] at hw
  unfold decodeBranch at h
  split at h <;> cases h
  all_goals
    next h3 =>
      rw [h3] at hw
      exact ⟨immBOf_fits_and_even w, hw.symm⟩

theorem spells_of_decodeFixed (h : decodeFixed w = .ok i) : i.Spells w := by
  unfold decodeFixed at h
  split at h <;> cases h
  all_goals exact ⟨rfl, rfl⟩

/-- The decoder's answer, through the part of it that the opcode leads to (rule R104). -/
theorem spells_of_decodeWord (h : decodeWord w = .ok i) : i.Spells w := by
  have hU := eq_fmtU_fields w
  rw [← tc_toNat (w.extractLsb' 12 20)] at hU
  have hJ := eq_fmtJ_fields w
  rw [← tc_toInt (imm21Of w)] at hJ
  unfold decodeWord at h
  split at h
  next hop => exact spells_of_decodeR hop h
  next hop => exact spells_of_decodeOpImm hop h
  next hop => exact spells_of_decodeLoad hop h
  next hop => exact spells_of_decodeJalr hop h
  next hop => exact spells_of_decodeStore hop h
  next hop => exact spells_of_decodeBranch hop h
  next hop => cases h; exact ⟨fitsImm20_toNat _, (hop ▸ hU).symm⟩
  next hop => cases h; exact ⟨fitsImm20_toNat _, (hop ▸ hU).symm⟩
  next hop => cases h; exact ⟨immJOf_fits_and_even w, (hop ▸ hJ).symm⟩
  next => exact spells_of_decodeFixed h
  next => exact spells_of_decodeFixed h
  next => cases h

end

/-- Settles O43: a word is the formatted word of its fields, and the formulas of rule R103 are inverse to the immediate patterns. -/
theorem encodeInvertsDecode : Obligations.EncodeInvertsDecode := by
  unfold Obligations.EncodeInvertsDecode
  exact fun _ _ => spells_of_decodeWord

/-- Settles O1: each word is evaluated by the decoder. -/
theorem specWordsDecode : Obligations.SpecWordsDecode := by
  unfold Obligations.SpecWordsDecode
  decide

end Sys2Proof
end

section
/-! PROOFS. The canonical line of an instruction parses back to it (30_encoding.md sections 2 to 5 and 11, rules R71 to R85), and a word of
the opcode table comes out of the call on its line. -/

namespace Sys2Proof

open Rules

/-! Lines of plain tokens are cut where they were joined. -/

/-- A token whose bytes the case fold keeps (rules R71, R74). -/
def IsPlainToken (x : Text) : Prop := x ≠ [] ∧ ∀ b ∈ x, isTokenByte b = true ∧ foldByte b = b

theorem IsPlainToken.isToken {x : Text} (h : IsPlainToken x) : IsToken x := by
  obtain ⟨hne, hplain⟩ := h
  exact isToken_iff.2 ⟨hne, fun b hb => (hplain b hb).1⟩

theorem foldText_of_fixed {x : Text} (h : ∀ b ∈ x, foldByte b = b) : foldText x = x := by
  rw [foldText, List.map_congr_left h, List.map_id']

theorem IsPlainToken.foldText {x : Text} (h : IsPlainToken x) : foldText x = x :=
  foldText_of_fixed fun b hb => (h.2 b hb).2

/-- A separator has no letter, so the fold keeps it (rules R71, R75). -/
theorem foldText_of_isSeparator {x : Text} (h : IsSeparator x) : foldText x = x := by
  obtain ⟨-, hbytes, -⟩ := h
  refine foldText_of_fixed fun b hb => ?_
  rcases hbytes b hb with hspace | rfl
  · exact foldByte_of_isSpace hspace
  · rfl

theorem foldText_separated {seps toks : List Text} (hseps : ∀ x ∈ seps, IsSeparator x) (htoks : ∀ x ∈ toks, IsPlainToken x) :
    foldText (separated seps toks) = separated seps toks := by
  induction toks generalizing seps with
  | nil => simp [separated, foldText]
  | cons t toks ih =>
    cases seps with
    | nil => rfl
    | cons x seps =>
      obtain ⟨hx, hseps⟩ := List.forall_mem_cons.1 hseps
      obtain ⟨ht, htoks⟩ := List.forall_mem_cons.1 htoks
      rw [separated_cons, foldText_append, foldText_append, foldText_of_isSeparator hx, ht.foldText, ih hseps htoks]

/-- A text that ends in a token byte still does with separators and tokens behind it. -/
theorem getLast_append_separated {x : Text} {seps toks : List Text} (hx : ∀ b, x.getLast? = some b → isSpace b = false)
    (htoks : ∀ x ∈ toks, IsPlainToken x) : ∀ b, (x ++ separated seps toks).getLast? = some b → isSpace b = false := by
  induction toks generalizing x seps with
  | nil => simpa [separated] using hx
  | cons t toks ih =>
    cases seps with
    | nil => simpa [separated] using hx
    | cons sep seps =>
      obtain ⟨⟨hne, hplain⟩, htoks⟩ := List.forall_mem_cons.1 htoks
      have hlast : ∀ b, (x ++ sep ++ t).getLast? = some b → isSpace b = false := by
        intro b hb
        rw [List.getLast?_append_of_ne_nil _ hne] at hb
        exact ((isTokenByte_iff b).1 (hplain b (List.mem_of_getLast? hb)).1).1
      have hassoc : x ++ separated (sep :: seps) (t :: toks) = x ++ sep ++ t ++ separated seps toks := by simp [separated_cons]
      rw [hassoc]
      exact ih hlast htoks

/-- The fold and the trim leave a line of plain tokens as it is, and its first token is the mnemonic (rules R71 to R74). -/
theorem splitMnemonic_line {m : Text} {seps toks : List Text} (hm : IsPlainToken m) (hseps : ∀ x ∈ seps, IsSeparator x)
    (htoks : ∀ x ∈ toks, IsPlainToken x) :
    splitMnemonic (trim (foldText (m ++ separated seps toks))) = (m, separated seps toks) := by
  have hbytes : ∀ b ∈ m, isTokenByte b = true := fun b hb => (hm.2 b hb).1
  have hspace : ∀ b ∈ m, isSpace b = false := fun b hb => ((isTokenByte_iff b).1 (hbytes b hb)).1
  have hhead : ∀ b, (m ++ separated seps toks).head? = some b → isSpace b = false := by
    intro b hb
    rw [List.head?_append_of_ne_nil _ hm.1] at hb
    exact hspace b (List.mem_of_head? hb)
  have hlast := getLast_append_separated (seps := seps) (fun b hb => hspace b (List.mem_of_getLast? hb)) htoks
  obtain ⟨htake, hdrop⟩ := takeToken_append hbytes fun b => head_separated (toks := toks) hseps
  rw [foldText_append, hm.foldText, foldText_separated hseps htoks, trim_of_no_outer_space hhead hlast, splitMnemonic, htake, hdrop]

/-! The canonical line as mnemonic, separators and tokens. -/

theorem isPlainToken_printReg (r : RegId) : IsPlainToken (printReg r) := by
  refine ⟨List.cons_ne_nil _ _, fun b hb => ?_⟩
  obtain ⟨htok, -, hfold⟩ := printReg_plain r b hb
  exact ⟨htok, hfold⟩

theorem printImm_ne_nil (v : Int) : printImm v ≠ [] := by
  cases v with
  | ofNat n => exact decimal_ne_nil n
  | negSucc n => exact List.cons_ne_nil _ _

theorem isPlainToken_printImm (v : Int) : IsPlainToken (printImm v) := by
  refine ⟨printImm_ne_nil v, fun b hb => ?_⟩
  obtain ⟨htok, -, hfold⟩ := printImm_plain hb
  exact ⟨htok, hfold⟩

theorem isPlainToken_printMem (v : Int) (r : RegId) : IsPlainToken (printMem v r) :=
  ⟨List.append_ne_nil_of_left_ne_nil (printImm_ne_nil v) _, fun _ => printMem_plain⟩

theorem isPlainToken_of_mem_operandTokens (i : Instr) : ∀ x ∈ i.operandTokens, IsPlainToken x := by
  cases i <;> simp [Instr.operandTokens, isPlainToken_printReg, isPlainToken_printImm, isPlainToken_printMem]

/-- `T_FAMILY` gives the family of an instruction under its mnemonic (rule R77). -/
theorem lookup_family_mnemonic (i : Instr) : lookup i.mnemonic Tables.contents.family = some i.family := by cases i <;> rfl

/-- Mnemonics are spelled in lowercase letters and dots, without separators (rule R77). -/
theorem bytes_of_mem_family : ∀ p ∈ Tables.contents.family,
    p.1 ≠ [] ∧ (p.1.all fun b => isTokenByte b && (b == 0x2E#8 || decide (0x5A < b.toNat))) = true := by
  decide

theorem isPlainToken_mnemonic (i : Instr) : IsPlainToken i.mnemonic := by
  obtain ⟨hne, hall⟩ := bytes_of_mem_family _ (mem_of_lookup (lookup_family_mnemonic i))
  refine ⟨hne, fun b hb => ?_⟩
  obtain ⟨htok, hcapital⟩ := Bool.and_eq_true_iff.1 (List.all_eq_true.1 hall b hb)
  refine ⟨htok, foldByte_of_not_capital ?_⟩
  rcases Bool.or_eq_true_iff.1 hcapital with hdot | hhigh
  · exact .inl (by rw [beq_iff_eq.1 hdot]; decide)
  · exact .inr (of_decide_eq_true hhigh)

/-- The separators of a canonical line: a space, then a comma and a space before each further token. -/
def canonicalSeparators : List Text → List Text
  | [] => []
  | _ :: toks => [0x20#8] :: toks.map fun _ => commaSpace

theorem length_canonicalSeparators (toks : List Text) : (canonicalSeparators toks).length = toks.length := by
  cases toks <;> simp [canonicalSeparators]

theorem isSeparator_of_mem_canonicalSeparators {toks : List Text} : ∀ x ∈ canonicalSeparators toks, IsSeparator x := by
  have hspace : IsSeparator [0x20#8] := by unfold IsSeparator; decide
  have hcomma : IsSeparator commaSpace := by unfold IsSeparator; decide
  cases toks <;> simp [canonicalSeparators, hspace, hcomma]

theorem printOperands_eq_separated (toks : List Text) : printOperands toks = separated (canonicalSeparators toks) toks := by
  have hrest : ∀ ts : List Text, (ts.map fun b => commaSpace ++ b).flatten = separated (ts.map fun _ => commaSpace) ts := by
    intro ts
    induction ts with
    | nil => rfl
    | cons u ts ih => simp [separated_cons, ih]
  cases toks with
  | nil => rfl
  | cons t toks => simp [printOperands, canonicalSeparators, separated_cons, hrest]

theorem splitMnemonic_print (i : Instr) : splitMnemonic (trim (foldText (print i))) = (i.mnemonic, printOperands i.operandTokens) := by
  rw [print, printOperands_eq_separated]
  exact splitMnemonic_line (isPlainToken_mnemonic i) isSeparator_of_mem_canonicalSeparators (isPlainToken_of_mem_operandTokens i)

theorem splitOperands_printOperands (i : Instr) : splitOperands (printOperands i.operandTokens) = .ok i.operandTokens := by
  rw [printOperands_eq_separated]
  exact splitOperands_separated (length_canonicalSeparators _) isSeparator_of_mem_canonicalSeparators
    fun x hx => (isPlainToken_of_mem_operandTokens i x hx).isToken

/-- The canonical tokens of an instruction bind, in its family's shape, the operands that make it (rules R78 to R85). -/
theorem exists_bound_operands (i : Instr) :
    ∃ ops, bindShape Tables.contents i.family.shape i.operandTokens = some ops ∧ bindOperands i.mnemonic ops = some i := by
  cases i
  case add | sub | sll | slt | sltu | xor | srl | sra | or | and =>
    exact ⟨_, bindShape_regRegReg_eq_some.2 ⟨_, _, _, _, _, _, rfl, resolve_printReg _, resolve_printReg _, resolve_printReg _, rfl⟩, rfl⟩
  case addi | slti | sltiu | xori | ori | andi | slli | srli | srai | beq | bne | blt | bge | bltu | bgeu =>
    exact ⟨_, bindShape_regRegImm_eq_some.2 ⟨_, _, _, _, _, _, rfl, resolve_printReg _, resolve_printReg _, immToken_printImm _, rfl⟩, rfl⟩
  case lb | lh | lw | lbu | lhu | jalr | sb | sh | sw =>
    exact ⟨_, bindShape_regMem_eq_some.2 ⟨_, _, _, _, _, rfl, resolve_printReg _, memToken_printMem _ _, rfl⟩, rfl⟩
  case lui | auipc | jal =>
    exact ⟨_, bindShape_regImm_eq_some.2 ⟨_, _, _, _, rfl, resolve_printReg _, immToken_printImm _, rfl⟩, rfl⟩
  case ecall | ebreak | fenceTso | pause => exact ⟨.noOperand, rfl, rfl⟩

/-- The front half of a call reads an instruction back from its canonical line. -/
theorem parse_print (i : Instr) : parse Tables.contents (print i) = .ok i := by
  obtain ⟨hne, -⟩ := isPlainToken_mnemonic i
  obtain ⟨ops, hshape, hbind⟩ := exists_bound_operands i
  simp only [parse, splitMnemonic_print, hne, if_false, lookup_family_mnemonic, splitOperands_printOperands, matchShape, hshape, hbind]

/-- Settles O44: a canonical line is plain tokens joined by separators, so it is cut where it was joined, and each token reads back. -/
theorem parseInvertsPrint : Obligations.ParseInvertsPrint := by
  unfold Obligations.ParseInvertsPrint
  exact parse_print

/-! A word of the opcode table at the input port (rule R103, log entry 9). -/

theorem decodeTableWord_of_decodeWord {w : Word} {i : Instr} (h : decodeWord w = .ok i) : decodeTableWord 32 w.toNat = some i := by
  have hlt : w.toNat < 2 ^ 32 := w.isLt
  rw [decodeTableWord, Nat.mod_eq_of_lt hlt, if_pos hlt, BitVec.ofNat_toNat, BitVec.setWidth_eq, h]

namespace Machine

theorem State.withFetchWord_of_decodeWord {w : Word} {i : Instr} (s : State) (h : decodeWord w = .ok i) :
    s.withFetchWord 32 w.toNat = ({ s with tables := Tables.contents } : State).withInput (print i) := by
  rw [withFetchWord, decodeTableWord_of_decodeWord h]

end Machine

open Machine

/-- Inside the spec, a line that parses to an instruction is a call of that instruction (rule R70). -/
theorem Machine.step_of_parse_ok {s : State} {i : Instr} (hs : s.Ready) (h : parse Tables.contents s.input = .ok i) : step s = exec i s := by
  rw [step_of_ready hs, encodeText_of_parse_ok h, exec_of_loaded i hs.loaded]

/-- Settles O45: the port holds the canonical line of the word's instruction, which parses back to it, and its encoding is the word. -/
theorem fetchedTableWordComesOutAgain : Obligations.FetchedTableWordComesOutAgain := by
  unfold Obligations.FetchedTableWordComesOutAgain
  intro s w i hdecode
  obtain ⟨hwf, hword⟩ := spells_of_decodeWord hdecode
  rw [State.withFetchWord_of_decodeWord s hdecode]
  set u := ({ s with tables := Tables.contents } : State).withInput (print i)
  have hu : u.Ready := State.withInput_ready (print i) rfl
  have hparse : parse Tables.contents u.input = .ok i := by rw [State.withInput_input, parse_print]
  have hstep := step_of_parse_ok hu hparse
  refine ⟨decodeTableWord_of_decodeWord hdecode, hstep, ?_⟩
  rw [hstep, exec_of_loaded i hu.loaded, Instr.checkedWord_of_check_none ((checkImmediate_eq_none i).2 hwf), hword]

end Sys2Proof
end

section
/-! PROOFS. The invariant of the block, and where a step stops (10_state.md sections 1, 2 and 8, 70_reset_and_hazards.md sections 1 and 2). -/

namespace Sys2Proof

namespace Machine

/-- What an answer of the pure call leaves on the output ports is legal (rules R114, R400, R402). -/
theorem State.answer_outputsLegal (s : State) : (s.answer (encodeText Tables.contents s.input)).OutputsLegal := by
  cases hcall : encodeText Tables.contents s.input with
  | ok w =>
    obtain ⟨i, -, hwf, rfl⟩ := encodeText_eq_ok hcall
    exact .inl ⟨rfl, i, hwf, rfl⟩
  | error k => exact .inr ⟨rfl, k, rfl⟩

/-- After a call inside the spec the outputs are the function of the input (rules R23, R35). -/
theorem State.answer_settled {s : State} (h : s.TablesLoaded) : (s.answer (encodeText Tables.contents s.input)).Settled := by
  have htables : s.tables = Tables.contents := h
  rw [State.Settled, State.answer_tables, State.answer_input, htables, State.answer_answer]

/-- The three ways of a step: an answer inside the spec, and the two refusals outside it (rule R451, U8). -/
theorem step_trichotomy (s : State) :
    (s.Ready ∧ step s = .next (s.answer (encodeText Tables.contents s.input))) ∨
    (¬ s.InputFits ∧ step s = .refused .inputBeyondCapacity) ∨
    (s.InputFits ∧ ¬ s.TablesLoaded ∧ step s = .refused .tablesNotLoaded) := by
  by_cases hf : s.InputFits
  · by_cases hl : s.TablesLoaded
    · exact .inl ⟨⟨hl, hf⟩, step_of_ready ⟨hl, hf⟩⟩
    · exact .inr (.inr ⟨hf, hl, step_of_not_loaded hf hl⟩)
  · exact .inr (.inl ⟨hf, step_of_not_fits hf⟩)

/-- A step is refused for one reason outside the spec, and never inside it. -/
theorem step_eq_refused_iff {s : State} {r : Refusal} :
    step s = .refused r ↔
      (¬ s.InputFits ∧ r = .inputBeyondCapacity) ∨ (s.InputFits ∧ ¬ s.TablesLoaded ∧ r = .tablesNotLoaded) := by
  rcases step_trichotomy s with ⟨⟨hl, hf⟩, hstep⟩ | ⟨hf, hstep⟩ | ⟨hf, hl, hstep⟩
  · simp [hstep, hl, hf]
  · simp [hstep, hf, eq_comm]
  · simp [hstep, hf, hl, eq_comm]

theorem step_ne_fault (s : State) (f : Fault) : step s ≠ .fault f := nomatch f

theorem exec_eq_next_iff {s : State} {i : Instr} : (∃ s', exec i s = .next s') ↔ s.TablesLoaded := by
  by_cases hl : s.TablesLoaded
  · simp [exec_of_loaded i hl, hl]
  · simp [exec_of_not_loaded i hl, hl]

theorem exec_eq_refused_iff {s : State} {i : Instr} {r : Refusal} :
    exec i s = .refused r ↔ ¬ s.TablesLoaded ∧ r = .tablesNotLoaded := by
  by_cases hl : s.TablesLoaded
  · simp [exec_of_loaded i hl, hl]
  · simp [exec_of_not_loaded i hl, hl, eq_comm]

end Machine

open Machine

/-- Settles O39: the next state is the old one with the pure call's answer, which keeps tables and inputs and drives the outputs whole. -/
theorem everyStepKeepsTheInvariant : Obligations.EveryStepKeepsTheInvariant := by
  unfold Obligations.EveryStepKeepsTheInvariant
  rintro s ⟨hready, -⟩
  exact ⟨_, step_of_ready hready, ⟨State.answer_ready _ hready, s.answer_outputsLegal⟩, State.answer_settled hready.loaded⟩

/-- Settles O2: the tables at reset are their contents, and the call on the empty text raises UnrecognizedMnemonic. -/
theorem resetMeetsInvariantAndIsSettled : Obligations.ResetMeetsInvariantAndIsSettled := by
  unfold Obligations.ResetMeetsInvariantAndIsSettled
  exact ⟨⟨⟨rfl, Nat.le_refl 0⟩, .inr ⟨rfl, .unrecognizedMnemonic, rfl⟩⟩, rfl⟩

/-- Settles O3: inside the spec both the step and the arm of exec answer the pure call on the input text. -/
theorem stepRunsTheParsedInstruction : Obligations.StepRunsTheParsedInstruction := by
  unfold Obligations.StepRunsTheParsedInstruction
  refine fun s hs => ⟨fun i hparse => step_of_parse_ok hs hparse, fun k hparse => ?_⟩
  rw [step_of_ready hs, encodeText_of_parse_error hparse]

/-- Settles O41: a step has three ways and an arm of exec two, told apart by the conditions of rule R451 and U8. -/
theorem stepStopsExactlyOutsideTheSpec : Obligations.StepStopsExactlyOutsideTheSpec := by
  unfold Obligations.StepStopsExactlyOutsideTheSpec
  exact fun s => ⟨⟨fun ⟨_, h⟩ => ready_of_step_next h, fun h => ⟨_, step_of_ready h⟩⟩, fun _ => step_eq_refused_iff, step_ne_fault s,
    fun _ => exec_eq_next_iff, fun _ _ => exec_eq_refused_iff⟩

/-- No token stands at the start of a text exactly when the text is empty or starts with a byte that is none (rule R74). -/
theorem takeToken_eq_nil_iff {x : Text} : takeToken x = [] ↔ ∀ b, x.head? = some b → isTokenByte b = false := by
  cases x with
  | nil => simp [takeToken]
  | cons c cs => cases hc : isTokenByte c <;> simp [takeToken, hc]

/-- Settles O26: the mnemonic is cut off at the first byte that is no token byte, and a trimmed text does not start with whitespace. -/
theorem mnemonicIsTheLongestTokenPrefix : Obligations.MnemonicIsTheLongestTokenPrefix := by
  unfold Obligations.MnemonicIsTheLongestTokenPrefix
  refine fun x => ⟨takeToken_append_dropToken x, fun _ => isTokenByte_of_mem_takeToken, fun _ => head_dropToken, ?_⟩
  have hspace : ∀ b, (trim x).head? = some b → isSpace b = false := fun b => head_trim
  rw [splitMnemonic, takeToken_eq_nil_iff]
  cases hx : trim x with
  | nil => simp
  | cons c cs =>
    have hc : isSpace c = false := hspace c (by rw [hx]; rfl)
    simp [isTokenByte_eq_false_iff, hc]

end Sys2Proof
end

section
/-! PROOFS. What exec answers for each instruction (40_r_type.md to 48_fixed.md, 30_encoding.md section 5): the word of its rule, or the
error of its immediate check. -/

namespace Sys2Proof

namespace Machine

section
variable {s : State} (hl : s.TablesLoaded)
include hl

/-- A well-formed instruction answers its word (rules R55, R114). -/
theorem exec_of_wellFormed {i : Instr} (h : i.WellFormed) : exec i s = .next (s.answer (.ok (encode i))) := by
  rw [exec_of_loaded i hl, Instr.checkedWord_of_check_none ((checkImmediate_eq_none i).2 h)]

/-- An instruction whose immediate fails its check answers the error of the check (rules R86 to R90). -/
theorem exec_of_check_error {i : Instr} {k : ErrorKind} (h : i.checkImmediate = some k) : exec i s = .next (s.answer (.error k)) := by
  rw [exec_of_loaded i hl, Instr.checkedWord_of_check_error h]

/-- Instructions with one check all answer what that check makes of their immediate. -/
theorem exec_of_mem_of_checkedWord {l : List Instr} {check : Option ErrorKind} {r : Except ErrorKind Word}
    (hword : ∀ i : Instr, i.checkImmediate = check → i.checkedWord = r) (h : ∀ i ∈ l, i.checkImmediate = check) :
    ∀ i ∈ l, exec i s = .next (s.answer r) :=
  fun i hi => by rw [exec_of_loaded i hl, hword i (h i hi)]

end

end Machine

open Machine

/-- Settles O14: the check passes exactly on the well-formed instructions, and raises the two immediate errors only. -/
theorem execAnswersAWordExactlyWhenWellFormed : Obligations.ExecAnswersAWordExactlyWhenWellFormed := by
  unfold Obligations.ExecAnswersAWordExactlyWhenWellFormed
  refine fun s i hl => ⟨exec_of_wellFormed hl, fun hwf => ?_⟩
  obtain ⟨k, hk⟩ := Option.ne_none_iff_exists'.1 (mt (checkImmediate_eq_none i).1 hwf)
  exact ⟨k, checkImmediate_error hk, exec_of_check_error hl hk⟩

/-- Settles O13: the instructions of a list share one check, which refuses the immediate. -/
theorem immediateChecksRaiseTheirError : Obligations.ImmediateChecksRaiseTheirError := by
  unfold Obligations.ImmediateChecksRaiseTheirError
  intro s a b v hl
  obtain ⟨-, hjalOut, hjalOdd⟩ := checkedWord_of_imm21 (i := .jal a v) rfl
  refine ⟨fun h => exec_of_mem_of_checkedWord hl (fun _ hcheck => checkedWord_of_out_of_imm12 hcheck h) ?_,
    fun h => exec_of_mem_of_checkedWord hl (fun _ hcheck => checkedWord_of_out_of_shamt hcheck h) ?_,
    fun h => exec_of_mem_of_checkedWord hl (fun _ hcheck => checkedWord_of_out_of_imm20 hcheck h) ?_,
    fun h => exec_of_mem_of_checkedWord hl (fun _ hcheck => checkedWord_of_out_of_imm13 hcheck h) ?_,
    fun h => exec_of_mem_of_checkedWord hl (fun _ hcheck => checkedWord_of_odd_imm13 hcheck h) ?_,
    fun h => ?_, fun h => ?_⟩
  case refine_6 => rw [exec_of_loaded _ hl, hjalOut h]
  case refine_7 => rw [exec_of_loaded _ hl, hjalOdd h]
  all_goals simp [Instr.checkImmediate]

/-! Each instruction with its immediate in range is well formed, and `encode` spells the word of its rule. -/

/-- Settles O4: the family has no check. -/
theorem rInstructionsDriveTheirWord : Obligations.RInstructionsDriveTheirWord := by
  unfold Obligations.RInstructionsDriveTheirWord
  intro s rd rs1 rs2 hl
  and_intros <;> exact exec_of_wellFormed hl rfl

/-- Settles O5: the bounds are those of the 12-bit check. -/
theorem iArithInstructionsDriveTheirWord : Obligations.IArithInstructionsDriveTheirWord := by
  unfold Obligations.IArithInstructionsDriveTheirWord
  intro s rd rs1 imm hl hlo hhi
  have hfits := fitsImm12_iff.2 ⟨hlo, hhi⟩
  and_intros <;> exact exec_of_wellFormed hl hfits

/-- Settles O6: the bounds are those of the 12-bit check, which does not ask for an even offset. -/
theorem loadsAndJalrDriveTheirWord : Obligations.LoadsAndJalrDriveTheirWord := by
  unfold Obligations.LoadsAndJalrDriveTheirWord
  intro s rd rs1 offset hl hlo hhi
  have hfits := fitsImm12_iff.2 ⟨hlo, hhi⟩
  and_intros <;> exact exec_of_wellFormed hl hfits

/-- Settles O7: the bounds are those of the shift check. -/
theorem iShiftInstructionsDriveTheirWord : Obligations.IShiftInstructionsDriveTheirWord := by
  unfold Obligations.IShiftInstructionsDriveTheirWord
  intro s rd rs1 shamt hl hlo hhi
  have hfits := fitsShamt_iff.2 ⟨hlo, hhi⟩
  and_intros <;> exact exec_of_wellFormed hl hfits

/-- Settles O8: the bounds are those of the 12-bit check. -/
theorem storesDriveTheirWord : Obligations.StoresDriveTheirWord := by
  unfold Obligations.StoresDriveTheirWord
  intro s rs2 rs1 offset hl hlo hhi
  have hfits := fitsImm12_iff.2 ⟨hlo, hhi⟩
  and_intros <;> exact exec_of_wellFormed hl hfits

/-- Settles O9: an even offset within the bounds passes both checks of rule R88. -/
theorem branchesDriveTheirWord : Obligations.BranchesDriveTheirWord := by
  unfold Obligations.BranchesDriveTheirWord
  intro s rs1 rs2 offset hl hlo hhi heven
  have hfits := Bool.and_eq_true_iff.2 ⟨fitsImm13_iff.2 ⟨hlo, hhi⟩, isEven_iff.2 heven⟩
  and_intros <;> exact exec_of_wellFormed hl hfits

/-- Settles O10: the bounds are those of the 20-bit check. -/
theorem upperImmediatesDriveTheirWord : Obligations.UpperImmediatesDriveTheirWord := by
  unfold Obligations.UpperImmediatesDriveTheirWord
  intro s rd imm hl hlo hhi
  have hfits := fitsImm20_iff.2 ⟨hlo, hhi⟩
  and_intros <;> exact exec_of_wellFormed hl hfits

/-- Settles O11: an even offset within the bounds passes both checks of rule R90. -/
theorem jalDrivesItsWord : Obligations.JalDrivesItsWord := by
  unfold Obligations.JalDrivesItsWord
  intro s rd offset hl hlo hhi heven
  exact exec_of_wellFormed hl (Bool.and_eq_true_iff.2 ⟨fitsImm21_iff.2 ⟨hlo, hhi⟩, isEven_iff.2 heven⟩)

/-- Settles O12: the family has no check. -/
theorem fixedInstructionsDriveTheirWord : Obligations.FixedInstructionsDriveTheirWord := by
  unfold Obligations.FixedInstructionsDriveTheirWord
  intro s hl
  and_intros <;> exact exec_of_wellFormed hl rfl

end Sys2Proof
end

section
/-! PROOFS. Lines of the Fixed family (48_fixed.md, rules R359 to R363). -/

namespace Sys2Proof

open Rules Machine

/-- The shape without operands (rule R78). -/
theorem bindShape_noOperand_eq_some {t : Tables} {toks : List Text} {ops : Operands} :
    bindShape t .noOperand toks = some ops ↔ toks = [] ∧ ops = .noOperand := by
  constructor
  · intro h
    obtain ⟨hshape, -⟩ | ⟨hshape, -⟩ | ⟨hshape, -⟩ | ⟨hshape, -⟩ | ⟨-, hbound⟩ := bindShape_eq_some h
    case inr.inr.inr.inr => exact hbound
    all_goals cases hshape
  · rintro ⟨rfl, rfl⟩
    rfl

/-- Each mnemonic of rules R360 to R363 is of the Fixed family (rule R77). -/
theorem lookup_family_of_mem_fixedRows : ∀ p ∈ Rules.fixedRows, lookup p.1 Tables.contents.family = some .fixed := by decide

/-- Each mnemonic of rules R360 to R363 makes, without operands, an instruction without an immediate check whose word is the rule's. -/
theorem bindOperands_of_mem_fixedRows : ∀ p ∈ Rules.fixedRows, ∃ i, bindOperands p.1 .noOperand = some i ∧ i.checkedWord = .ok p.2 := by
  simp only [Rules.fixedRows, List.forall_mem_cons, List.not_mem_nil, false_implies, implies_true, and_true]
  refine ⟨?ecall, ?ebreak, ?fenceTso, ?pause⟩
  all_goals exact ⟨_, rfl, rfl⟩

/-- Settles O23: no token binds to the instruction of the line's mnemonic, and any token, as a separator error, leaves the shape unfilled. -/
theorem fixedLinesEncodeAsRuled : Obligations.FixedLinesEncodeAsRuled := by
  unfold Obligations.FixedLinesEncodeAsRuled
  refine ⟨?lines, examplesHold_of_encodeText (by decide)⟩
  rintro s hs m w hrow rfl
  have hfam := lookup_family_of_mem_fixedRows _ hrow
  constructor
  · intro hops
    obtain ⟨i, hbind, hword⟩ := bindOperands_of_mem_fixedRows _ hrow
    rw [← hword]
    exact step_of_bindOperands hs hfam hops rfl hbind
  · intro hbad
    refine step_of_operands_unbound hs hfam fun toks hops => Option.eq_none_iff_forall_ne_some.2 fun ops hshape => ?_
    obtain ⟨rfl, -⟩ := bindShape_noOperand_eq_some.1 hshape
    exact hbad hops

end Sys2Proof
end

section
/-! PROOFS. The error kinds of a call: which can arise, which is reported, and how (60_exceptions.md section 1, rules R400 to R403). -/

namespace Sys2Proof

open Rules Machine

/-! Rule R403: the earliest step that fails. -/

/-- The mnemonics of each family are those of its rules (rule R77). -/
theorem mem_rows_of_lookup_family {m : Text} {fam : Family} (h : lookup m Tables.contents.family = some fam) :
    (fam = .r ∧ m ∈ rRows.map (·.1)) ∨ (fam = .iArith ∧ m ∈ iArithRows.map (·.1)) ∨ (fam = .iLoadJalr ∧ m ∈ iLoadJalrRows.map (·.1)) ∨
    (fam = .iShift ∧ m ∈ iShiftRows.map (·.1)) ∨ (fam = .s ∧ m ∈ sRows.map (·.1)) ∨ (fam = .b ∧ m ∈ bRows.map (·.1)) ∨
    (fam = .u ∧ m ∈ uRows.map (·.1)) ∨ (fam = .j ∧ m ∈ jRows.map (·.1)) ∨ (fam = .fixed ∧ m ∈ Rules.fixedRows.map (·.1)) := by
  rw [lookup_family_eq_some, family_eq_rows] at h
  simpa only [List.mem_append, mem_familyRows, or_assoc] using h

/-- Operands that fill the shape of a mnemonic's family make an instruction of it (rules R77, R78). -/
theorem exists_bindOperands_of_bindShape {t : Tables} {m : Text} {fam : Family} {toks : List Text} {ops : Operands}
    (hfam : lookup m Tables.contents.family = some fam) (h : bindShape t fam.shape toks = some ops) :
    ∃ i, bindOperands m ops = some i := by
  rcases mem_rows_of_lookup_family hfam with ⟨rfl, hm⟩ | ⟨rfl, hm⟩ | ⟨rfl, hm⟩ | ⟨rfl, hm⟩ | ⟨rfl, hm⟩ | ⟨rfl, hm⟩ | ⟨rfl, hm⟩ |
    ⟨rfl, hm⟩ | ⟨rfl, hm⟩
  all_goals obtain ⟨p, hp, rfl⟩ := List.mem_map.1 hm
  · obtain ⟨-, -, -, x, y, z, -, -, -, -, rfl⟩ := bindShape_regRegReg_eq_some.1 h
    exact (bindOperands_of_mem_rRows p hp x y z).imp fun _ => And.left
  · obtain ⟨-, -, -, x, y, v, -, -, -, -, rfl⟩ := bindShape_regRegImm_eq_some.1 h
    exact (bindOperands_of_mem_iArithRows p hp x y v).imp fun _ => And.left
  · obtain ⟨-, -, x, v, y, -, -, -, rfl⟩ := bindShape_regMem_eq_some.1 h
    exact (bindOperands_of_mem_iLoadJalrRows p hp x y v).imp fun _ => And.left
  · obtain ⟨-, -, -, x, y, v, -, -, -, -, rfl⟩ := bindShape_regRegImm_eq_some.1 h
    exact (bindOperands_of_mem_iShiftRows p hp x y v).imp fun _ => And.left
  · obtain ⟨-, -, x, v, y, -, -, -, rfl⟩ := bindShape_regMem_eq_some.1 h
    exact (bindOperands_of_mem_sRows p hp x y v).imp fun _ => And.left
  · obtain ⟨-, -, -, x, y, v, -, -, -, -, rfl⟩ := bindShape_regRegImm_eq_some.1 h
    exact (bindOperands_of_mem_bRows p hp x y v).imp fun _ => And.left
  · obtain ⟨-, -, x, v, -, -, -, rfl⟩ := bindShape_regImm_eq_some.1 h
    exact (bindOperands_of_mem_uRows p hp x v).imp fun _ => And.left
  · obtain ⟨-, -, x, v, -, -, -, rfl⟩ := bindShape_regImm_eq_some.1 h
    exact (bindOperands_of_mem_jRows p hp x v).imp fun _ => And.left
  · obtain ⟨-, rfl⟩ := bindShape_noOperand_eq_some.1 h
    exact (bindOperands_of_mem_fixedRows p hp).imp fun _ => And.left

/-- The back half of a call raises what `check_immediate` raises (rule R70). -/
theorem Instr.checkedWord_eq_error {i : Instr} {k : ErrorKind} (h : i.checkedWord = .error k) : i.checkImmediate = some k := by
  cases hcheck : i.checkImmediate with
  | none => rw [checkedWord_of_check_none hcheck] at h; cases h
  | some j => rw [checkedWord_of_check_error hcheck] at h; cases h; rfl

theorem Instr.checkedWord_ne_earlier_error (i : Instr) :
    i.checkedWord ≠ .error .unrecognizedMnemonic ∧ i.checkedWord ≠ .error .malformedOperands := by
  constructor
  all_goals
    intro h
    rcases checkImmediate_error (checkedWord_eq_error h) with hk | hk <;> cases hk

/-- Two registers and an offset on a branch mnemonic make an instruction with the checks of rule R88. -/
theorem bindOperands_of_branch {m : Text} (hfam : lookup m Tables.contents.family = some .b) (a b : RegId) (v : Int) :
    ∃ i, bindOperands m (.regRegImm a b v) = some i ∧ i.checkImmediate = checkImm13 v := by
  have hm : m ∈ bRows.map (·.1) := by simpa using mem_rows_of_lookup_family hfam
  obtain ⟨p, hp, rfl⟩ := List.mem_map.1 hm
  obtain ⟨i, hbind, hcheck, -⟩ := bindOperands_of_mem_bRows p hp a b v
  exact ⟨i, hbind, hcheck⟩

/-- A register and an offset on the jump mnemonic make an instruction with the checks of rule R90. -/
theorem bindOperands_of_jump {m : Text} (hfam : lookup m Tables.contents.family = some .j) (a : RegId) (v : Int) :
    ∃ i, bindOperands m (.regImm a v) = some i ∧ i.checkImmediate = checkImm21 v := by
  have hm : m ∈ jRows.map (·.1) := by simpa using mem_rows_of_lookup_family hfam
  obtain ⟨p, hp, rfl⟩ := List.mem_map.1 hm
  obtain ⟨i, hbind, hcheck, -⟩ := bindOperands_of_mem_jRows p hp a v
  exact ⟨i, hbind, hcheck⟩

/-- Settles O33: each part of the call raises its own kind before the next part is read, and the checks of rules R88 and R90 look at the
range first. -/
theorem earliestErrorIsReported : Obligations.EarliestErrorIsReported := by
  unfold Obligations.EarliestErrorIsReported
  refine ⟨fun s hs => ⟨step_of_family_none hs, fun fam hfam => ⟨fun k hsep => ?separators, fun toks hops => ⟨?shape, fun ops hshape => ?bound⟩⟩⟩,
    examplesHold_of_encodeText (by decide)⟩
  case separators => exact step_of_operands_unbound hs hfam fun toks hops => by rw [hsep] at hops; cases hops
  case shape => exact step_of_bindShape_none hs hfam hops
  case bound =>
    refine ⟨?late, ?branch, ?jump⟩
    case late =>
      obtain ⟨i, hbind⟩ := exists_bindOperands_of_bindShape hfam hshape
      exact ⟨_, step_of_bindOperands hs hfam hops hshape hbind, i.checkedWord_ne_earlier_error⟩
    case branch =>
      rintro a b v rfl rfl
      obtain ⟨i, hbind, hcheck⟩ := bindOperands_of_branch hfam a b v
      rw [step_of_bindOperands hs hfam hops hshape hbind]
      exact ⟨fun h => by rw [checkedWord_of_out_of_imm13 hcheck h], fun h => by rw [checkedWord_of_odd_imm13 hcheck h]⟩
    case jump =>
      rintro a v rfl rfl
      obtain ⟨i, hbind, hcheck⟩ := bindOperands_of_jump hfam a v
      obtain ⟨-, hout, hodd⟩ := checkedWord_of_imm21 hcheck
      rw [step_of_bindOperands hs hfam hops hshape hbind]
      exact ⟨fun h => by rw [hout h], fun h => by rw [hodd h]⟩

/-! Rule R401: the kinds of each family. -/

/-- `check_immediate` raises the immediate errors that rule R401 gives the instruction's family. -/
theorem checkImmediate_mem_kindsOf {i : Instr} {k : ErrorKind} (h : i.checkImmediate = some k) : k ∈ kindsOf i.family := by
  cases i
  case add | sub | sll | slt | sltu | xor | srl | sra | or | and | ecall | ebreak | fenceTso | pause => cases h
  case addi | slti | sltiu | xori | ori | andi | lb | lh | lw | lbu | lhu | jalr | slli | srli | srai | sb | sh | sw | lui | auipc =>
    simp [checkRange_error h, Instr.family, kindsOf]
  case beq | bne | blt | bge | bltu | bgeu | jal =>
    rcases checkRangeThenEven_error h with rfl | rfl <;> simp [Instr.family, kindsOf]

/-- Once the mnemonic is known, a call raises no other kind than rule R401 gives its family. -/
theorem mem_kindsOf_of_encodeText_error {s : State} {fam : Family} {k : ErrorKind}
    (hfam : lookup s.lineMnemonic Tables.contents.family = some fam) (h : encodeText Tables.contents s.input = .error k) :
    k ∈ kindsOf fam := by
  cases hparse : parse Tables.contents s.input with
  | error j =>
    rw [encodeText_of_parse_error hparse] at h
    cases h
    rw [parse_error_of_family hfam hparse]
    cases fam <;> decide
  | ok i =>
    rw [encodeText_of_parse_ok hparse] at h
    obtain ⟨-, -, ops, -, -, -, hbind⟩ := parse_eq_ok hparse
    have hfamily : i.family = fam := by
      rw [← mnemonic_of_bindOperands hbind, lookup_family_mnemonic] at hfam
      exact Option.some.inj hfam
    rw [← hfamily]
    exact checkImmediate_mem_kindsOf (Instr.checkedWord_eq_error h)

/-- A line of each family for each error kind that rule R401 gives it: a trailing comma, an immediate out of range, an odd offset. -/
def faultyLines : List (Family × ErrorKind × Text) :=
  [(.r, .malformedOperands, ascii "add,".toList),
   (.iArith, .malformedOperands, ascii "addi,".toList),
   (.iArith, .immediateOutOfRange, ascii "addi x1, x2, 2048".toList),
   (.iLoadJalr, .malformedOperands, ascii "lw,".toList),
   (.iLoadJalr, .immediateOutOfRange, ascii "lw x1, 2048(x2)".toList),
   (.iShift, .malformedOperands, ascii "slli,".toList),
   (.iShift, .immediateOutOfRange, ascii "slli x1, x2, 32".toList),
   (.s, .malformedOperands, ascii "sw,".toList),
   (.s, .immediateOutOfRange, ascii "sw x1, 2048(x2)".toList),
   (.b, .malformedOperands, ascii "beq,".toList),
   (.b, .immediateOutOfRange, ascii "beq x1, x2, 4096".toList),
   (.b, .immediateMisaligned, ascii "beq x1, x2, 1".toList),
   (.u, .malformedOperands, ascii "lui,".toList),
   (.u, .immediateOutOfRange, ascii "lui x1, 1048576".toList),
   (.j, .malformedOperands, ascii "jal,".toList),
   (.j, .immediateOutOfRange, ascii "jal x1, 1048576".toList),
   (.j, .immediateMisaligned, ascii "jal x1, 1".toList),
   (.fixed, .malformedOperands, ascii "ecall,".toList)]

/-- The block after power-up with a line on its input port. -/
def stateOnLine (T : Text) : State := State.reset.withInput T

theorem stateOnLine_ready (T : Text) : (stateOnLine T).Ready := State.withInput_ready T rfl

/-- Each of these lines is of its family and raises its kind. -/
theorem faultyLines_raise : ∀ p ∈ faultyLines,
    lookup (stateOnLine p.2.2).lineMnemonic Tables.contents.family = some p.1 ∧
      encodeText Tables.contents (stateOnLine p.2.2).input = .error p.2.1 := by
  decide

/-- The families and kinds of the lines are those of rule R401. -/
theorem exists_faultyLine : ∀ fam, ∀ k ∈ kindsOf fam, ∃ p ∈ faultyLines, p.1 = fam ∧ p.2.1 = k := by
  intro fam
  cases fam <;> decide

/-- Settles O32: the back half of a call raises the immediate errors of its family and the front half MalformedOperands; a line shows
each. -/
theorem errorKindsPerFamilyAreExactlyTheRuledOnes : Obligations.ErrorKindsPerFamilyAreExactlyTheRuledOnes := by
  unfold Obligations.ErrorKindsPerFamilyAreExactlyTheRuledOnes
  intro fam k
  constructor
  · intro hk
    obtain ⟨p, hp, rfl, rfl⟩ := exists_faultyLine fam k hk
    obtain ⟨hfam, hcall⟩ := faultyLines_raise p hp
    have hready := stateOnLine_ready p.2.2
    exact ⟨_, hready, hfam, by rw [step_of_ready hready, hcall]⟩
  · rintro ⟨s, hs, hfam, hstep⟩
    rw [step_of_ready hs] at hstep
    exact mem_kindsOf_of_encodeText_error hfam (State.answer_injective (Host.Outcome.next.inj hstep))

/-! Rule R402: what an error drives, and what is read of it. -/

/-- The codes of rule R400 on legal outputs. -/
theorem Machine.State.OutputsLegal.codes {s : State} (h : s.OutputsLegal) :
    (s.outErr = 0#3 ∧ ∃ i : Instr, i.WellFormed ∧ s.outWord = encode i) ∨
      ((s.outErr = 1#3 ∨ s.outErr = 2#3 ∨ s.outErr = 3#3 ∨ s.outErr = 4#3) ∧ s.outWord = 0x00000000#32) := by
  rcases h with hword | ⟨hzero, k, hcode⟩
  · exact .inl hword
  · refine .inr ⟨?_, hzero⟩
    rw [hcode]
    cases k <;> decide

theorem Machine.State.sample_of_ok {s : State} (h : s.outErr = 0#3) : s.sample = (0#3, some s.outWord) := by
  simp [sample, okCode, h]

theorem Machine.State.sample_of_error {s : State} (h : s.outErr ≠ 0#3) : s.sample = (s.outErr, none) := by
  simp [sample, okCode, h]

/-- An arm of exec does not read the output ports (rules R34, R35). -/
theorem Machine.exec_setOutputs (s : State) (w : Word) (e : BitVec 3) (i : Instr) : exec i (s.setOutputs w e) = exec i s := by
  by_cases hl : s.TablesLoaded
  · have hl' : (s.setOutputs w e).TablesLoaded := hl
    rw [exec_of_loaded i hl, exec_of_loaded i hl', State.answer_of_outputs]
  · have hl' : ¬ (s.setOutputs w e).TablesLoaded := hl
    rw [exec_of_not_loaded i hl, exec_of_not_loaded i hl']

/-- A step does not read the output ports (rules R34, R35). -/
theorem Machine.step_setOutputs (s : State) (w : Word) (e : BitVec 3) : step (s.setOutputs w e) = step s := by
  rcases step_trichotomy s with ⟨⟨hl, hf⟩, hstep⟩ | ⟨hf, hstep⟩ | ⟨hf, hl, hstep⟩
  · have hready : (s.setOutputs w e).Ready := ⟨hl, hf⟩
    rw [hstep, step_of_ready hready, State.setOutputs_input, State.answer_of_outputs]
  · have hf' : ¬ (s.setOutputs w e).InputFits := hf
    rw [hstep, step_of_not_fits hf']
  · have hf' : (s.setOutputs w e).InputFits := hf
    have hl' : ¬ (s.setOutputs w e).TablesLoaded := hl
    rw [hstep, step_of_not_loaded hf' hl']

/-- Settles O34: the next state of a step is an answer of the pure call, whose outputs are legal; a consumer samples no word beside an
error code; and an answer leaves nothing of the outputs before it. -/
theorem outErrNamesTheKindAndTheWordIsZeroOnError : Obligations.OutErrNamesTheKindAndTheWordIsZeroOnError := by
  unfold Obligations.OutErrNamesTheKindAndTheWordIsZeroOnError
  refine ⟨fun s s' hstep => ?outputs, fun s hs k hcall => ?kind, fun s => ⟨State.sample_of_ok, State.sample_of_error, fun w herr => ?sample⟩,
    fun s w e => ⟨step_setOutputs s w e, exec_setOutputs s w e⟩⟩
  case outputs =>
    obtain rfl := eq_answer_of_step_next hstep
    exact ⟨s.answer_tables _, s.answer_inText _, s.answer_inLen _, s.answer_outputsLegal.codes⟩
  case kind =>
    rw [step_of_ready hs, hcall]
    cases k <;> rfl
  case sample =>
    have herr' : ({ s with outWord := w } : State).outErr ≠ 0#3 := herr
    rw [State.sample_of_error herr, State.sample_of_error herr']

end Sys2Proof
end
